-- ==== Sys2Proof/Word.lean ====
section
/-! DEFINITION. The word types of the W340: a byte of the two message lines and the 24-bit set of
subjects or stations of R199. -/

namespace Sys2Proof

/-- One byte of a host-link or station-line frame (R198). -/
abbrev Byte := BitVec 8

/-- A subject set or a set of stations: bit n - 1 holds subject n (R199). -/
abbrev SubjectSet := BitVec 24

end Sys2Proof
end

