-- ==== Sys2Proof/Config.lean ====
section
/-! DEFINITION. What a configuration of the W340 holds (Chapter 9: parameters, profile, station table,
protection table), the names those tables use, and the two free values of the model: the byte layout of
the stored image, and what a four-byte field shows for a value that 32 bits do not hold. -/

namespace Sys2Proof

/-! ## Names -/

/-- The two drums (00_scope, Numbering). -/
inductive Drum | d1 | d2
  deriving DecidableEq, Repr

/-- The three conveyances; CAGE and COUNTERWEIGHT hang on drum 1, SKIP on drum 2. -/
inductive Conveyance | cage | counterweight | skip
  deriving DecidableEq, Repr

/-- The three shaft compartments C, W and S. -/
inductive Compartment | c | w | s
  deriving DecidableEq, Repr

/-- The trip kinds of R52. -/
inductive Kind | personnel | material | rock | search | inspect
  deriving DecidableEq, Repr

/-- The directions of travel; "none" is written as the absent option. -/
inductive Dir | down | up
  deriving DecidableEq, Repr

/-- A set of confirmations (section 3.2). -/
structure Confs where
  origin : Bool
  dest : Bool
  console : Bool
  panel : Bool
  deriving DecidableEq, Repr

/-- The station roles of section 4.2. -/
inductive Role | bank | level | loading | tip | cagePanel
  deriving DecidableEq, Repr

/-- A permission mask: a set of signals, a set of conveyances and a set of kinds (section 4.2). -/
structure Mask where
  call : Bool
  ready : Bool
  cancel : Bool
  cage : Bool
  skip : Bool
  personnel : Bool
  material : Bool
  rock : Bool
  search : Bool
  inspect : Bool
  deriving DecidableEq, Repr

/-- The actions a protection's entry may carry (R150). -/
inductive Action | emergency | controlled | creep | report | off
  deriving DecidableEq, Repr

/-- The recoveries an entry may have (R150). -/
inductive Recovery | latched | retry | self
  deriving DecidableEq, Repr

/-- The seventeen protections, in the order of the table of R150. -/
inductive Protection
  | overspeed | overwind | ultimateLimit | slackRope | markSlip | markMissed | linkMismatch
  | brakeFade | heldDrumMove | clutchTimeout | clutchMismatch | stationLost | stationHold
  | pathGate | stopOverrun | reconcileFail | encoderFault
  deriving DecidableEq, Repr

/-! ## Parts of a configuration -/

/-- A table keyed by number: pairs in strictly rising order of key. A key with no pair is absent. -/
abbrev Table (α : Type) := List (Nat × α)

/-- A level entry (section 1.2). -/
structure LevelEntry where
  enabled : Bool
  cage : Option Int
  skip : Option Int
  deriving DecidableEq, Repr

/-- A zone entry (section 1.4). -/
structure ZoneEntry where
  comp : Compartment
  start : Int
  range : Int
  ceiling : Nat
  enabled : Bool
  deriving DecidableEq, Repr

/-- A retard row (section 1.5). -/
structure RetardRow where
  distance : Int
  ceiling : Nat
  deriving DecidableEq, Repr

/-- What the configuration holds of a station (section 4.2). -/
structure StationEntry where
  role : Role
  level : Option Nat
  mask : Mask
  deriving DecidableEq, Repr

/-- A row of the protection table (R150); RETRY_TIME in seconds. -/
structure ProtRow where
  action : Action
  recovery : Recovery
  retryTime : Nat
  deriving DecidableEq, Repr

/-- The parameters of R195, in the order of its table; values are 4-byte signed fields (R198). -/
structure Params where
  counts1 : Int
  counts2 : Int
  cageBase : Int
  cwBase : Int
  skipBase : Int
  cageTop : Int
  cwTop : Int
  skipTop : Int
  cageBottom : Int
  cwBottom : Int
  skipBottom : Int
  linkSum : Int
  linkTol : Int
  snapTol : Int
  suspectTol : Int
  missLimit : Int
  offsetLimit : Int
  personnelSpeed : Int
  materialSpeed : Int
  rockSpeed : Int
  creepSpeed : Int
  inspectSpeed : Int
  overspeedMargin : Int
  overspeedDeglitch : Int
  stopWindow : Int
  controlledDecel : Int
  stopTimeLimit : Int
  torqueDelay : Int
  brakeSetDelay : Int
  brakeStopTime : Int
  clutchTime : Int
  heldTol : Int
  answerWindow : Int
  lostMisses : Int
  unattendedPerRound : Int
  leaveDistance : Int
  pendingLimit : Int
  stationLossDisposal : Int
  deriving DecidableEq, Repr

/-- A configuration: parameters (travel limits and link constant among them), profile, stations and
protection table (Chapter 9). The protection table is always whole: row p is at place p - 1. -/
structure Configuration where
  params : Params
  levels : Table LevelEntry
  zones : Table ZoneEntry
  retard1 : Table RetardRow
  retard2 : Table RetardRow
  marksC : Table Int
  marksW : Table Int
  marksS : Table Int
  stations : Table StationEntry
  protections : Vector ProtRow 17
  deriving DecidableEq, Repr

/-- FREE VALUE (notes/assumptions/2): the content bytes of the stored image that holds a configuration.
R187 computes a check value over "the content bytes in the order stored", and no rule of the spec lays
those bytes out, so no property of them is known here. -/
opaque Config.imageContent : Configuration → List Byte

/-- FREE VALUE (notes/assumptions/40): what a four-byte signed field shows for a value that 32 bits do not hold.
R198 gives the width of such a field, R23 and R25 leave the computed values unclamped, and no rule of the spec
joins the two, so no property of it is known here. -/
opaque Config.wideField : Int → BitVec 32

end Sys2Proof
end

