-- ==== Sys2Proof/Syntax.lean ====
section
/-! DEFINITION. The commands of the W340: one constructor of `Instr` for each row of
spec/opcode_table.json, with the operands the spec's rules give the row. -/

namespace Sys2Proof

/-- The levels of the field input lines at a reset (R28, R136, R154, R155): IN and OUT of each clutch,
the encoder fault lines, the ultimate limit circuits (true: made) and the slack-rope lines. -/
structure LineLevels where
  in1 : Bool
  out1 : Bool
  in2 : Bool
  out2 : Bool
  ef1 : Bool
  ef2 : Bool
  ultC : Bool
  ultW : Bool
  ultS : Bool
  slkC : Bool
  slkW : Bool
  slkS : Bool
  deriving DecidableEq, Repr

/-- The readings of a clutch's two sensors (R136). -/
inductive ClutchReading | atEngaged | atFree | between | conflict
  deriving DecidableEq, Repr

/-- The eight bytes of a station's answer (section 10.6) as they were taken, and whether any of them
carried a parity or framing error (R203). -/
structure StationAnswer where
  start : Byte
  station : Byte
  status : Byte
  signal : Byte
  arg1 : Byte
  arg2 : Byte
  arg3 : Byte
  check : Byte
  lineError : Bool
  deriving DecidableEq, Repr

/-- The commands, in the order of spec/opcode_table.json. A host request carries the TAG and BODY of the
well-formed frame that holds it; its LEN is the body's length (R178, R201). -/
inductive Instr
  | powerUp (lines : LineLevels)
  | resetLine (lines : LineLevels)
  | setParam (tag : Byte) (body : List Byte)
  | putLevel (tag : Byte) (body : List Byte)
  | putZone (tag : Byte) (body : List Byte)
  | putRetardRow (tag : Byte) (body : List Byte)
  | putMark (tag : Byte) (body : List Byte)
  | putStation (tag : Byte) (body : List Byte)
  | setProtection (tag : Byte) (body : List Byte)
  | clearConfig (tag : Byte) (body : List Byte)
  | commit (tag : Byte) (body : List Byte)
  | requestTrip (tag : Byte) (body : List Byte)
  | confirmTrip (tag : Byte) (body : List Byte)
  | withdrawTrip (tag : Byte) (body : List Byte)
  | start (tag : Byte) (body : List Byte)
  | stop (tag : Byte) (body : List Byte)
  | clearFaults (tag : Byte) (body : List Byte)
  | reconcile (tag : Byte) (body : List Byte)
  | edit (tag : Byte) (body : List Byte)
  | dropEdits (tag : Byte) (body : List Byte)
  | enterCommission (tag : Byte) (body : List Byte)
  | store (tag : Byte) (body : List Byte)
  | restart (tag : Byte) (body : List Byte)
  | getState (tag : Byte) (body : List Byte)
  | getPositions (tag : Byte) (body : List Byte)
  | getQueue (tag : Byte) (body : List Byte)
  | getTrip (tag : Byte) (body : List Byte)
  | getFaults (tag : Byte) (body : List Byte)
  | getFirstOut (tag : Byte) (body : List Byte)
  | getStations (tag : Byte) (body : List Byte)
  | getEdits (tag : Byte) (body : List Byte)
  | getParam (tag : Byte) (body : List Byte)
  | getLevel (tag : Byte) (body : List Byte)
  | getZone (tag : Byte) (body : List Byte)
  | getProtection (tag : Byte) (body : List Byte)
  /-- A well-formed frame whose KIND names no request (R178). -/
  | unknownKind (kind : Byte) (tag : Byte) (body : List Byte)
  | hostFrameDiscarded
  | byteGapTimeout
  | framingError
  | transmitComplete
  | restartReset (lines : LineLevels)
  | stationPoll
  | stationAnswer (answer : StationAnswer)
  | answerWindowExpiry
  | drumSample (drum : Drum)
  | standstillReached (drum : Drum)
  | markPulse (comp : Compartment)
  | encoderFaultLineAssert (drum : Drum)
  | encoderFaultLineClear (drum : Drum)
  | clutchReadingChange (drum : Drum) (reading : ClutchReading)
  | clutchTimeExpiry (drum : Drum)
  /-- The new line reading of ULT: `opened` when the circuit is not made (R154). -/
  | ultimateLimitChange (comp : Compartment) (opened : Bool)
  /-- The new line reading of SLK: `slack` when the line is asserted (R155). -/
  | slackRopeChange (comp : Compartment) (slack : Bool)
  | torqueDelayExpiry
  | brakeSetDelayExpiry
  | stopTimeLimitExpiry
  | brakeStopDeadline (drum : Drum)
  | retryTimerExpiry (prot : Protection)
  | pendingExpiry (id : Nat)
  /-- The end of a store write; whether the check value read back agrees with the one written (R189). -/
  | storeWriteComplete (agrees : Bool)
  | hostByteTaken (byte : Byte)
  /-- A run of `pairs` edge pairs in one direction; `up` when rope is paid out (R22). -/
  | encoderEdge (drum : Drum) (up : Bool) (pairs : Nat)
  | powerLoss
  deriving DecidableEq, Repr

end Sys2Proof
end

