-- ==== Sys2Proof/Decode.lean ====
section
/-! DEFINITION. Reading a command from a word of the opcode table. The table of the W340 gives no row any
bits, so no word spells a command. -/

namespace Sys2Proof

/-- The command that the low `nbits` bits of `w` spell by spec/opcode_table.json: none, since no row of the
table has bits. A host request reaches the part as a frame (Machine/Link), not as a word. -/
def decodeTableWord (_nbits _w : Nat) : Option Instr := none

end Sys2Proof
end

