-- ==== Sys2Proof/Machine/Params.lean ====
section
/-! DEFINITION. The parameter table of R195 (numbers, defaults, ranges), the protection table of R150
(allowed and default rows) and the default configuration of R194 and R1. -/

namespace Sys2Proof.Machine

/-- One row of the table of R195: default, lowest and highest value. -/
structure ParamRow where
  dflt : Int
  low : Int
  high : Int
  deriving DecidableEq, Repr

/-- R195 and R201: the row of parameter `n`, for n from 1 to 38. The range of the two scales is 1 to
1,000,000; their default 0 is the value "unset". -/
def paramRow : Nat → Option ParamRow
  | 1 | 2 => some ⟨0, 1, 1000000⟩
  | 3 | 4 | 5 => some ⟨0, -400000, 400000⟩
  | 6 | 7 | 8 => some ⟨-3000, -3000, 399999⟩
  | 9 | 10 | 11 => some ⟨400000, -2999, 400000⟩
  | 12 => some ⟨0, -6000, 800000⟩
  | 13 => some ⟨100, 10, 1000⟩
  | 14 => some ⟨20, 5, 100⟩
  | 15 => some ⟨150, 20, 500⟩
  | 16 => some ⟨2, 1, 7⟩
  | 17 => some ⟨800, 100, 3000⟩
  | 18 => some ⟨1200, 1, 2000⟩
  | 19 => some ⟨1400, 1, 2000⟩
  | 20 => some ⟨1800, 1, 2000⟩
  | 21 => some ⟨50, 20, 100⟩
  | 22 => some ⟨100, 50, 200⟩
  | 23 => some ⟨8, 2, 20⟩
  | 24 => some ⟨100, 20, 500⟩
  | 25 => some ⟨5, 2, 30⟩
  | 26 => some ⟨120, 50, 300⟩
  | 27 => some ⟨20, 5, 60⟩
  | 28 => some ⟨500, 100, 2000⟩
  | 29 => some ⟨800, 200, 3000⟩
  | 30 => some ⟨8, 2, 30⟩
  | 31 => some ⟨6, 1, 20⟩
  | 32 => some ⟨5, 1, 50⟩
  | 33 => some ⟨10, 5, 50⟩
  | 34 => some ⟨3, 1, 15⟩
  | 35 => some ⟨2, 1, 8⟩
  | 36 => some ⟨300, 50, 5000⟩
  | 37 => some ⟨180, 10, 900⟩
  | 38 => some ⟨0, 0, 1⟩
  | _ => none

/-- R195: every parameter at its default. -/
def Params.default : Params where
  counts1 := 0
  counts2 := 0
  cageBase := 0
  cwBase := 0
  skipBase := 0
  cageTop := -3000
  cwTop := -3000
  skipTop := -3000
  cageBottom := 400000
  cwBottom := 400000
  skipBottom := 400000
  linkSum := 0
  linkTol := 100
  snapTol := 20
  suspectTol := 150
  missLimit := 2
  offsetLimit := 800
  personnelSpeed := 1200
  materialSpeed := 1400
  rockSpeed := 1800
  creepSpeed := 50
  inspectSpeed := 100
  overspeedMargin := 8
  overspeedDeglitch := 100
  stopWindow := 5
  controlledDecel := 120
  stopTimeLimit := 20
  torqueDelay := 500
  brakeSetDelay := 800
  brakeStopTime := 8
  clutchTime := 6
  heldTol := 5
  answerWindow := 10
  lostMisses := 3
  unattendedPerRound := 2
  leaveDistance := 300
  pendingLimit := 180
  stationLossDisposal := 0

/-- The value of parameter `n` (R201 numbers the parameters down the table of R195). -/
def paramGet (p : Params) : Nat → Int
  | 1 => p.counts1
  | 2 => p.counts2
  | 3 => p.cageBase
  | 4 => p.cwBase
  | 5 => p.skipBase
  | 6 => p.cageTop
  | 7 => p.cwTop
  | 8 => p.skipTop
  | 9 => p.cageBottom
  | 10 => p.cwBottom
  | 11 => p.skipBottom
  | 12 => p.linkSum
  | 13 => p.linkTol
  | 14 => p.snapTol
  | 15 => p.suspectTol
  | 16 => p.missLimit
  | 17 => p.offsetLimit
  | 18 => p.personnelSpeed
  | 19 => p.materialSpeed
  | 20 => p.rockSpeed
  | 21 => p.creepSpeed
  | 22 => p.inspectSpeed
  | 23 => p.overspeedMargin
  | 24 => p.overspeedDeglitch
  | 25 => p.stopWindow
  | 26 => p.controlledDecel
  | 27 => p.stopTimeLimit
  | 28 => p.torqueDelay
  | 29 => p.brakeSetDelay
  | 30 => p.brakeStopTime
  | 31 => p.clutchTime
  | 32 => p.heldTol
  | 33 => p.answerWindow
  | 34 => p.lostMisses
  | 35 => p.unattendedPerRound
  | 36 => p.leaveDistance
  | 37 => p.pendingLimit
  | 38 => p.stationLossDisposal
  | _ => 0

/-- R195: the parameters with parameter `n` written; a number that is no parameter's writes nothing. -/
def paramSet (p : Params) (n : Nat) (v : Int) : Params :=
  match n with
  | 1 => { p with counts1 := v }
  | 2 => { p with counts2 := v }
  | 3 => { p with cageBase := v }
  | 4 => { p with cwBase := v }
  | 5 => { p with skipBase := v }
  | 6 => { p with cageTop := v }
  | 7 => { p with cwTop := v }
  | 8 => { p with skipTop := v }
  | 9 => { p with cageBottom := v }
  | 10 => { p with cwBottom := v }
  | 11 => { p with skipBottom := v }
  | 12 => { p with linkSum := v }
  | 13 => { p with linkTol := v }
  | 14 => { p with snapTol := v }
  | 15 => { p with suspectTol := v }
  | 16 => { p with missLimit := v }
  | 17 => { p with offsetLimit := v }
  | 18 => { p with personnelSpeed := v }
  | 19 => { p with materialSpeed := v }
  | 20 => { p with rockSpeed := v }
  | 21 => { p with creepSpeed := v }
  | 22 => { p with inspectSpeed := v }
  | 23 => { p with overspeedMargin := v }
  | 24 => { p with overspeedDeglitch := v }
  | 25 => { p with stopWindow := v }
  | 26 => { p with controlledDecel := v }
  | 27 => { p with stopTimeLimit := v }
  | 28 => { p with torqueDelay := v }
  | 29 => { p with brakeSetDelay := v }
  | 30 => { p with brakeStopTime := v }
  | 31 => { p with clutchTime := v }
  | 32 => { p with heldTol := v }
  | 33 => { p with answerWindow := v }
  | 34 => { p with lostMisses := v }
  | 35 => { p with unattendedPerRound := v }
  | 36 => { p with leaveDistance := v }
  | 37 => { p with pendingLimit := v }
  | 38 => { p with stationLossDisposal := v }
  | _ => p

/-! ## The protection table (R150) -/

/-- All protections, in the order of their numbers. -/
def allProtections : List Protection :=
  [.overspeed, .overwind, .ultimateLimit, .slackRope, .markSlip, .markMissed, .linkMismatch,
   .brakeFade, .heldDrumMove, .clutchTimeout, .clutchMismatch, .stationLost, .stationHold,
   .pathGate, .stopOverrun, .reconcileFail, .encoderFault]

/-- The place of a protection's row: its number less 1. -/
def protIdx : Protection → Fin 17
  | .overspeed => 0
  | .overwind => 1
  | .ultimateLimit => 2
  | .slackRope => 3
  | .markSlip => 4
  | .markMissed => 5
  | .linkMismatch => 6
  | .brakeFade => 7
  | .heldDrumMove => 8
  | .clutchTimeout => 9
  | .clutchMismatch => 10
  | .stationLost => 11
  | .stationHold => 12
  | .pathGate => 13
  | .stopOverrun => 14
  | .reconcileFail => 15
  | .encoderFault => 16

/-- The number of a protection, 1 to 17. -/
def protNumber (p : Protection) : Nat := (protIdx p).val + 1

/-- The protection with a given number. -/
def protOfNumber (n : Nat) : Option Protection := allProtections.find? (fun p => protNumber p = n)

/-- R150: the actions a protection's row may hold, the default first. -/
def actionsAllowed : Protection → List Action
  | .overspeed => [.emergency, .controlled]
  | .overwind => [.emergency]
  | .ultimateLimit => [.emergency]
  | .slackRope => [.emergency, .controlled]
  | .markSlip => [.controlled, .emergency]
  | .markMissed => [.creep, .controlled, .report, .off]
  | .linkMismatch => [.controlled, .report]
  | .brakeFade => [.emergency]
  | .heldDrumMove => [.emergency]
  | .clutchTimeout => [.controlled]
  | .clutchMismatch => [.emergency]
  | .stationLost => [.controlled, .creep, .report]
  | .stationHold => [.controlled, .emergency]
  | .pathGate => [.controlled, .emergency]
  | .stopOverrun => [.emergency]
  | .reconcileFail => [.controlled]
  | .encoderFault => [.emergency]

/-- R150: the recoveries a protection's row may hold, the default first. -/
def recoveriesAllowed : Protection → List Recovery
  | .overspeed => [.latched, .retry]
  | .overwind => [.latched]
  | .ultimateLimit => [.latched]
  | .slackRope => [.latched]
  | .markSlip => [.latched]
  | .markMissed => [.self, .latched]
  | .linkMismatch => [.latched]
  | .brakeFade => [.latched]
  | .heldDrumMove => [.latched]
  | .clutchTimeout => [.latched, .retry]
  | .clutchMismatch => [.latched]
  | .stationLost => [.self, .latched]
  | .stationHold => [.self, .latched]
  | .pathGate => [.self, .latched]
  | .stopOverrun => [.latched]
  | .reconcileFail => [.latched]
  | .encoderFault => [.latched]

/-- R150: the default row of a protection; RETRY_TIME defaults to 10 s. -/
def defaultRow (p : Protection) : ProtRow where
  action := (actionsAllowed p).headD .report
  recovery := (recoveriesAllowed p).headD .latched
  retryTime := 10

/-- R150: the default protection table. -/
def defaultProtections : Vector ProtRow 17 :=
  ⟨(allProtections.map defaultRow).toArray, rfl⟩

/-- The defaults of CLEAR_CONFIG (R194), which are also the empty profile and the defaults that act
while no configuration is in force (R1, R191): every level, zone, mark and station absent, one retard
row per drum of distance 400,000 cm and ceiling 0, every parameter and protection row at its default. -/
def defaultConfiguration : Configuration where
  params := Params.default
  levels := []
  zones := []
  retard1 := [(1, ⟨400000, 0⟩)]
  retard2 := [(1, ⟨400000, 0⟩)]
  marksC := []
  marksW := []
  marksS := []
  stations := []
  protections := defaultProtections

end Sys2Proof.Machine
end

