-- ==== Sys2Proof/Machine/State.lean ====
section
/-! DEFINITION. The state of the W340 as plain data, one structure for each of its nine blocks
(00_scope, Block overview), the queue of waiting commands, and the state after reset. -/

namespace Sys2Proof.Machine

/-! ## Trip Queue Manager (Chapter 3) -/

/-- The states of a trip (R51). -/
inductive TripState | pending | ready | active | suspended
  deriving DecidableEq, Repr

/-- The reasons of a withdrawal (R77). -/
inductive WithdrawReason | console | cancelled | requesterLost | levelOut | commission
  deriving DecidableEq, Repr

/-- The outcomes with which a trip leaves the queue (R77). -/
inductive TripEnd
  | arrived
  | aborted (inWindow : Bool)
  | withdrawn (reason : WithdrawReason)
  | expired
  deriving DecidableEq, Repr

/-- A trip record (section 3.1). The drum follows from the conveyance (R49) and is not stored twice;
`step` is the search step of a SEARCH trip, and 0 for a trip of another kind. -/
structure Trip where
  id : Nat
  kind : Kind
  conv : Conveyance
  dest : Option Nat
  requester : Nat
  required : Confs
  held : Confs
  state : TripState
  requestedAt : Nat
  orphaned : Bool
  step : Nat
  deriving DecidableEq, Repr

/-- The origin status of a conveyance (R54). -/
inductive OriginStatus | atLevel (n : Nat) | outside | unset
  deriving DecidableEq, Repr

/-- The state of the TQM: queue, id allocator, origin status of CAGE and SKIP. -/
structure Tqm where
  trips : List Trip
  lastId : Nat
  originCage : OriginStatus
  originSkip : OriginStatus
  deriving DecidableEq, Repr

/-! ## Station Line Controller (Chapter 4) -/

/-- The link states of a station (R91). -/
inductive LinkState | unheard | online | missing | lost
  deriving DecidableEq, Repr

/-- The results of replies and of station signals (section 10.2, Result codes). -/
inductive Result
  | ok | unknownKind | badLength | wrongState | outOfRange | queueFull | duplicate | notPermitted
  | notPlaced | noSuchTrip | noSuchLevel | notReady | active | inhibited | busy | stageFull
  | invalidConfig | linkFull | accepted | confirmed | gatesOpen | nothingToConfirm | cancelled
  | notYours | notOnline
  deriving DecidableEq, Repr

/-- The result of a station's last signal, as a poll carries it (R89, section 10.6): the signal byte
answered, the result, the trip id or 0, and the count of trips confirmed or 0. -/
structure SignalResult where
  signal : Byte
  result : Result
  id : Nat
  count : Nat
  deriving DecidableEq, Repr

/-- The volatile part of a station table entry (section 4.2). -/
structure Station where
  link : LinkState
  misses : Nat
  rejoin : Nat
  gatesOpen : Bool
  hold : Bool
  result : Option SignalResult
  deriving DecidableEq, Repr

/-- The exchange in progress (R82): the station polled, what the poll carried, and the end of
ANSWER_WINDOW. -/
structure Exchange where
  station : Nat
  result : Option SignalResult
  displayId : Nat
  displayState : Option TripState
  deadline : Nat
  deriving DecidableEq, Repr

/-- The round in progress (R88): its polling set, the attended stations not yet polled in it, and the
unattended stations it has polled. -/
structure Round where
  pollingSet : SubjectSet
  attendedLeft : SubjectSet
  unattended : List Nat
  deriving DecidableEq, Repr

/-- The state of the SLC. The enrolment, role, level and mask of each station are held once, in the
configuration in force. -/
structure Slc where
  stations : Table Station
  pointer : Nat
  round : Option Round
  path : SubjectSet
  originStation : Option Nat
  exchange : Option Exchange
  deriving DecidableEq, Repr

/-! ## Profile Unit (Chapter 1) -/

/-- A service edit: its item and its value (section 1.8). -/
inductive Edit
  | zoneCeiling (zone : Nat) (ceiling : Nat)
  | zoneEnable (zone : Nat) (on : Bool)
  | levelEnable (level : Nat) (on : Bool)
  | stationMask (station : Nat) (mask : Mask)
  deriving DecidableEq, Repr

/-- The state of the PFU besides the profile, which is part of the configuration in force: the staged
edit buffer, in the order first staged. -/
structure Pfu where
  staged : List Edit
  deriving DecidableEq, Repr

/-! ## Depth Tracker (Chapter 2) -/

/-- The position states of R30. -/
inductive PosState | unknown | reconciled | suspect
  deriving DecidableEq, Repr

/-- The two ends of the range of an encoder count (R22). -/
inductive RangeEnd | low | high
  deriving DecidableEq, Repr

/-- What the DPT holds for a drum. `used` is the count the depths were last computed from (the last
sample or pulse, R40); `history` holds the counts of the last sample and of the ten before it, newest
first (R22, R25); `quiet` counts the unbroken run of quiet samples, up to 20 (R26); `heldEnd` is the
range end at which the last sample found the count (R27); `resume` says that the next sample is the
first after the fault line cleared (R28). -/
structure DrumTrack where
  count : Int
  used : Int
  history : List Int
  speed : Int
  quiet : Nat
  standstill : Bool
  heldEnd : Option RangeEnd
  faultLine : Bool
  resume : Bool
  sampledAt : Nat
  deriving DecidableEq, Repr

/-- What the DPT holds for a conveyance. `aimDue` says that the next-expected mark is to be recomputed at
the next sample that sets a direction (R36). -/
structure ConvTrack where
  datum : Int
  drift : Int
  pos : PosState
  misses : Nat
  dir : Option Dir
  expected : Option Nat
  aimDue : Bool
  deriving DecidableEq, Repr

/-- The state of the DPT. -/
structure Dpt where
  drum1 : DrumTrack
  drum2 : DrumTrack
  cage : ConvTrack
  counterweight : ConvTrack
  skip : ConvTrack
  linkError : Option Int
  deriving DecidableEq, Repr

/-! ## Motion Sequencer (Chapter 5) -/

/-- The run phases while RUNNING. -/
inductive Phase | proving | moving | settling
  deriving DecidableEq, Repr

/-- The stop stages while STOPPING. -/
inductive Stage | decelerating | setting
  deriving DecidableEq, Repr

/-- The winder states of section 5.1; the run phase stands with RUNNING and the stop stage with
STOPPING, since they are "none otherwise". -/
inductive Winder
  | commission
  | parked
  | changeover
  | running (phase : Phase)
  | stopping (stage : Stage)
  | halted
  | tripped
  deriving DecidableEq, Repr

/-- The settle outcomes. -/
inductive SettleEnd | arrived | aborted
  deriving DecidableEq, Repr

/-- The sources of the effective ceiling (R125). -/
inductive Source
  | none
  | braked
  | base
  | zone (n : Nat)
  | retard (row : Nat)
  | retardPast
  | creep
  | hold
  | stop
  | ramp
  deriving DecidableEq, Repr

/-- A ramp: start value, start time and target (R123). -/
structure Ramp where
  start : Nat
  startedAt : Nat
  target : Nat
  deriving DecidableEq, Repr

/-- The effective ceiling with its source, the target and the ramp. -/
structure Ceiling where
  value : Nat
  source : Source
  target : Option Nat
  ramp : Option Ramp
  deriving DecidableEq, Repr

/-- The phase timer with the time at which it expires. -/
inductive PhaseTimer
  | torque (deadline : Nat)
  | brakeSet (deadline : Nat)
  deriving DecidableEq, Repr

/-- A search record (R106). -/
structure SearchRec where
  assumed : Int
  first : Dir
  dir : Dir
  exhausted : Bool
  found : Bool
  deriving DecidableEq, Repr

/-- The state of the MSQ. `current` is the current trip's id, `stopStart` the start of the stop timer. -/
structure Msq where
  winder : Winder
  current : Option Nat
  direction : Option Dir
  settle : Option SettleEnd
  ceiling : Ceiling
  creepClamp : Bool
  phaseTimer : Option PhaseTimer
  stopStart : Option Nat
  excessStart : Option Nat
  search1 : Option SearchRec
  search2 : Option SearchRec
  deriving DecidableEq, Repr

/-! ## Coupling Controller (Chapter 6) -/

/-- The clutch states of R137. -/
inductive ClutchState | engaged | free | engaging | releasing | unsure
  deriving DecidableEq, Repr

/-- What the CPL holds for a clutch; `timer` is the time at which the movement timer expires. -/
structure Clutch where
  reading : ClutchReading
  state : ClutchState
  timer : Option Nat
  deriving DecidableEq, Repr

/-- A movement of a changeover: the release of the other drum or the engagement of the target drum. -/
inductive Movement | release | engage
  deriving DecidableEq, Repr

/-- A changeover in progress: target drum and the movement under way, or none (R138, R140). -/
structure Changeover where
  target : Drum
  movement : Option Movement
  deriving DecidableEq, Repr

/-- The brake watch of a drum (R144 to R147); `moved` is the held movement at the last sample, in cm. -/
inductive Watch
  | none
  | fade (refSpeed : Int) (deadline : Nat)
  | held (refCount : Int) (moved : Int)
  deriving DecidableEq, Repr

/-- The state of the CPL: the seven output lines (true: asserted or driven), the emergency block, the
clutches, the changeover and the brake watches. -/
structure Cpl where
  brk1 : Bool
  brk2 : Bool
  drv : Bool
  eng1 : Bool
  dis1 : Bool
  eng2 : Bool
  dis2 : Bool
  block : Bool
  clutch1 : Clutch
  clutch2 : Clutch
  changeover : Option Changeover
  watch1 : Watch
  watch2 : Watch
  deriving DecidableEq, Repr

/-! ## Protection Unit (Chapter 7) -/

/-- An entry of the active fault list (R161): `isHeld` says HELD, else ACTIVE; `deadline` is the retry
deadline or absent. -/
structure FaultEntry where
  prot : Protection
  action : Action
  recovery : Recovery
  retryTime : Nat
  subjects : SubjectSet
  isHeld : Bool
  raisedAt : Nat
  deadline : Option Nat
  deriving DecidableEq, Repr

/-- The first-out record (R169); subject 0 is none, an absent depth is none. -/
structure FirstOut where
  prot : Protection
  subject : Nat
  raisedAt : Nat
  cageDepth : Option Int
  cagePos : PosState
  cwDepth : Option Int
  cwPos : PosState
  skipDepth : Option Int
  skipPos : PosState
  deriving DecidableEq, Repr

/-- The state of the PRT. The protection table in force is part of the configuration in force;
`missedOff` is the treatment of MARK_MISSED as OFF that R156 gives. A line reading is true when the
ultimate limit circuit is open, or the slack-rope line is asserted. -/
structure Prt where
  presence : Vector SubjectSet 17
  entries : List FaultEntry
  firstOut : Option FirstOut
  ultC : Bool
  ultW : Bool
  ultS : Bool
  slkC : Bool
  slkW : Bool
  slkS : Bool
  missedOff : Bool
  deriving DecidableEq, Repr

/-! ## Notices (R201, R202, R204) -/

/-- The causes of a TRIP notice (R79). -/
inductive TripCause
  | admitted | confirmed | revoked | orphaned | started | resumed | suspended | removed
  deriving DecidableEq, Repr

/-- The causes of a WINDER notice (R107). -/
inductive WinderCause
  | start | resume | changeoverDone | proven | arrival | settled | stop | controlled | standstill
  | suspended | emergency | cleared | withdrawn | searchStep | commission | commit
  deriving DecidableEq, Repr

/-- The causes of a FAULT notice (R170). -/
inductive FaultCause | raised | added | held | subjectGone | changed | removed
  deriving DecidableEq, Repr

/-- The reasons of a FAULT notice with cause REMOVED (R170). -/
inductive RemovalReason | self | cleared | retry | config
  deriving DecidableEq, Repr

/-- The causes of a MARK notice. -/
inductive MarkCause | accepted | slip | missed | search
  deriving DecidableEq, Repr

/-- The causes of an EDIT notice (R15, R19, R20). -/
inductive EditCause | immediate | parked | dropped
  deriving DecidableEq, Repr

/-- The outcomes of a store write (R189). -/
inductive StoreEnd | written | failed | erased
  deriving DecidableEq, Repr

/-- The notices of section 8.5, each with the content its rule gives it. -/
inductive Notice
  /-- R79: the record as the claim left it, and for a removal its outcome. -/
  | trip (cause : TripCause) (record : Trip) (outcome : Option TripEnd)
  /-- R107: state before and after, the current trip's id or 0, the search step or 0. -/
  | winder (cause : WinderCause) (before after : Winder) (tripId step : Nat)
  /-- R170: the entry as the change left it (subject 0: none); a removed entry keeps its fields. -/
  | fault (cause : FaultCause) (reason : Option RemovalReason) (entry : FaultEntry) (subject : Nat)
      (count : Nat) (firstOut : Bool)
  /-- R103. -/
  | station (number : Nat) (before after : LinkState) (misses : Nat) (gatesOpen hold attended : Bool)
  /-- R102. -/
  | signal (number : Nat) (signal arg1 arg2 arg3 : Byte) (result : SignalResult) (link : LinkState)
      (gatesOpen hold : Bool)
  /-- R34, R35, R37, R45: mark 0 is none; the datum fields are those of cause SEARCH. -/
  | mark (cause : MarkCause) (conv : Conveyance) (number : Nat) (error : Option Int) (drift : Int)
      (pos : PosState) (misses : Nat) (datum : Int) (cw : Option (Int × PosState))
  /-- R125: the ceiling after the change and CONTROLLED_DECEL. -/
  | ceiling (value : Nat) (source : Source) (ramp : Option Ramp) (decel : Nat)
  /-- R15, R19, R20: the edits, and for cause IMMEDIATE the staged edit removed. -/
  | edit (cause : EditCause) (edits : List Edit) (removed : Option Edit)
  /-- R189: the check value written, or 0 for an erase, and the time the write took in ms. -/
  | store (outcome : StoreEnd) (check : BitVec 16) (took : Nat)
  deriving DecidableEq, Repr

/-! ## Host Link Controller (Chapter 8) -/

/-- The frame hunter of R173 with the partial frame it holds: LEN, KIND, TAG and the body so far. -/
inductive Hunter
  | hunt
  | syncSeen
  | len
  | kind (len : Byte)
  | tag (len kind : Byte)
  | body (len kind tag : Byte) (bytes : List Byte)
  | check (len kind tag : Byte) (bytes : List Byte)
  deriving DecidableEq, Repr

/-- An occupied place of the receive buffer with its reply: a frame place, or a refusal place holding a
LINK_FULL reply (R176, R177). KIND and TAG are those of the request; `body` is the reply's body. -/
structure Place where
  refusal : Bool
  kind : Byte
  tag : Byte
  body : List Byte
  deriving DecidableEq, Repr

/-- A notice in the notice queue with its "preceded by loss" mark (R181). -/
structure Queued where
  notice : Notice
  afterLoss : Bool
  deriving DecidableEq, Repr

/-- The transmitter (R180): idle, sending the reply formed earliest (the head of the occupied places),
or sending a notice taken from the queue. -/
inductive Transmitter
  | idle
  | reply
  | notice (queued : Queued)
  deriving DecidableEq, Repr

/-- The restart drain (R185): off, or on with the note whether the RESTART was accepted in PARKED or
HALTED, on which R192 makes the reset depend. -/
inductive Drain
  | off
  | on (keep : Bool)
  deriving DecidableEq, Repr

/-- The state of the HLC. `places` lists the occupied frame and refusal places in the order in which
their replies were formed. -/
structure Hlc where
  hunter : Hunter
  lastByte : Nat
  places : List Place
  tx : Transmitter
  notices : List Queued
  lossFlag : Bool
  drain : Drain
  deriving DecidableEq, Repr

/-! ## Configuration Store (Chapter 9) -/

/-- The stored image (R187): content, check value and valid mark. -/
structure Image where
  content : Configuration
  check : BitVec 16
  mark : Bool
  deriving DecidableEq, Repr

/-- The steps of a store write (R189). -/
inductive StoreStep | clearing | writing | marking
  deriving DecidableEq, Repr

/-- A store write in flight: the content to be written, or none for an erase, its step and start. -/
structure StoreWrite where
  content : Option Configuration
  step : StoreStep
  startedAt : Nat
  deriving DecidableEq, Repr

/-- The state of the CFS. -/
structure Cfs where
  image : Image
  write : Option StoreWrite
  working : Option Configuration
  inForce : Option Configuration
  deriving DecidableEq, Repr

/-! ## The machine -/

/-- The state of the W340: the clock (ms since the most recent reset, R198), whether the part is under
supply, its nine blocks, and the queue of waiting commands, first in, first out. -/
structure State where
  now : Nat
  powered : Bool
  hlc : Hlc
  slc : Slc
  pfu : Pfu
  dpt : Dpt
  tqm : Tqm
  msq : Msq
  cpl : Cpl
  prt : Prt
  cfs : Cfs
  pending : List Instr
  deriving DecidableEq, Repr

/-- The faults of a step. The spec gives every command an effect in every state, so no meaning of this
model raises one; the constructor stands for a command that is not one of the part's, and no arm of
`exec` answers with it. Safe: nothing reaches it. -/
inductive Fault
  /-- Raised by no meaning. -/
  | notACommand
  deriving DecidableEq, Repr

/-- The refusals of a step. -/
inductive Refusal
  /-- An instruction without a meaning yet, by its mnemonic. Safe: the machine stops. -/
  | notModelled (mnemonic : String)
  deriving DecidableEq, Repr

/-! ## Reset values -/

/-- R182: the HLC after power-up. -/
def Hlc.reset : Hlc where
  hunter := .hunt
  lastByte := 0
  places := []
  tx := .idle
  notices := []
  lossFlag := false
  drain := .off

/-- R84: an entry of the station table after a reset, a COMMIT or an ENTER_COMMISSION. -/
def Station.unheard : Station where
  link := .unheard
  misses := 0
  rejoin := 0
  gatesOpen := true
  hold := false
  result := none

/-- R84: the SLC with the station table of a configuration put in force. -/
def Slc.fresh (stations : Table StationEntry) : Slc where
  stations := stations.map (fun p => (p.1, Station.unheard))
  pointer := 0
  round := none
  path := 0
  originStation := none
  exchange := none

/-- R18: the staged buffer after a reset. -/
def Pfu.reset : Pfu where
  staged := []

/-- R24: what the DPT holds for a drum after a reset that leaves the count at `count`. No range end counts as
found by a sample yet, whatever the count kept (R27; notes/assumptions/32). -/
def DrumTrack.fresh (count : Int) (faultLine : Bool) : DrumTrack where
  count := count
  used := count
  history := List.replicate 11 count
  speed := 0
  quiet := 0
  standstill := false
  heldEnd := none
  faultLine := faultLine
  resume := false
  sampledAt := 0

/-- R24: what the DPT holds for a conveyance made UNKNOWN. -/
def ConvTrack.fresh : ConvTrack where
  datum := 0
  drift := 0
  pos := .unknown
  misses := 0
  dir := none
  expected := none
  aimDue := true

/-- R48, R50, R54: the TQM after a reset. -/
def Tqm.reset : Tqm where
  trips := []
  lastId := 0
  originCage := .unset
  originSkip := .unset

/-- The effective ceiling outside RUNNING and STOPPING (R122). -/
def Ceiling.idle : Ceiling := ⟨0, .none, none, none⟩

/-- The effective ceiling while the brake is set or being set (R122). -/
def Ceiling.braked : Ceiling := ⟨0, .braked, none, none⟩

/-- R106: the MSQ after a reset into winder state `w`. -/
def Msq.fresh (w : Winder) : Msq where
  winder := w
  current := none
  direction := none
  settle := none
  ceiling := Ceiling.idle
  creepClamp := false
  phaseTimer := none
  stopStart := none
  excessStart := none
  search1 := none
  search2 := none

/-- R137: the state a clutch takes from its reading at a reset. -/
def Clutch.fresh (r : ClutchReading) : Clutch where
  reading := r
  state := match r with
    | .atEngaged => .engaged
    | .atFree => .free
    | .between => .unsure
    | .conflict => .unsure
  timer := none

/-- R132, R134, R136 to R138, R148: the CPL after a reset that finds the given clutch readings. -/
def Cpl.fresh (r1 r2 : ClutchReading) : Cpl where
  brk1 := false
  brk2 := false
  drv := false
  eng1 := false
  dis1 := false
  eng2 := false
  dis2 := false
  block := false
  clutch1 := Clutch.fresh r1
  clutch2 := Clutch.fresh r2
  changeover := none
  watch1 := .none
  watch2 := .none

/-- R152, R161, R169: the PRT after a reset, before the raises that follow it, with the line readings
all at their quiet levels. -/
def Prt.reset : Prt where
  presence := Vector.replicate 17 0
  entries := []
  firstOut := none
  ultC := false
  ultW := false
  ultS := false
  slkC := false
  slkW := false
  slkS := false
  missedOff := false

/-- The stored image of a part that has never stored: valid mark clear (notes/assumptions/3). -/
def Image.blank : Image where
  content := defaultConfiguration
  check := 0
  mark := false

/-- R190, R191: the CFS after a reset that found no valid image. -/
def Cfs.reset : Cfs where
  image := Image.blank
  write := none
  working := some defaultConfiguration
  inForce := none

/-- The machine right after power-up with no valid stored image (R191, R106): COMMISSION, nothing in
force. The input lines are taken as both clutches between their ends and every other line at its quiet
level (notes/assumptions/4). -/
def State.reset : State where
  now := 0
  powered := true
  hlc := Hlc.reset
  slc := Slc.fresh []
  pfu := Pfu.reset
  dpt := {
    drum1 := DrumTrack.fresh 0 false
    drum2 := DrumTrack.fresh 0 false
    cage := ConvTrack.fresh
    counterweight := ConvTrack.fresh
    skip := ConvTrack.fresh
    linkError := none }
  tqm := Tqm.reset
  msq := Msq.fresh .commission
  cpl := Cpl.fresh .between .between
  prt := Prt.reset
  cfs := Cfs.reset
  pending := []

end Sys2Proof.Machine
end

