-- ==== Sys2Proof/Machine/Operands.lean ====
section
/-! DEFINITION. How fields are read from a request's body and written into replies, notices and polls
(R198), the codes of named values (R199), and the two check values (R175, R187). -/

namespace Sys2Proof.Machine

/-! ## Reading fields (R198: most significant byte first, signed fields in two's complement) -/

/-- The byte at place `i` of a body. -/
def byteAt (b : List Byte) (i : Nat) : Byte := b.getD i 0

/-- A one-byte unsigned field. -/
def u8At (b : List Byte) (i : Nat) : Nat := (byteAt b i).toNat

/-- A two-byte unsigned field. -/
def u16At (b : List Byte) (i : Nat) : Nat := u8At b i * 256 + u8At b (i + 1)

/-- A four-byte unsigned field. -/
def u32At (b : List Byte) (i : Nat) : Nat := u16At b i * 65536 + u16At b (i + 2)

/-- A four-byte signed field. -/
def s32At (b : List Byte) (i : Nat) : Int :=
  if u32At b i < 2147483648 then (u32At b i : Int) else (u32At b i : Int) - 4294967296

/-- The value 0x80000000 that writes an absent depth, speed, error or time. -/
def absent32 : Int := -2147483648

/-- A four-byte signed field that may be absent. -/
def optS32At (b : List Byte) (i : Nat) : Option Int :=
  if s32At b i = absent32 then none else some (s32At b i)

/-! ## Writing fields -/

/-- A one-byte field. -/
def put8 (n : Nat) : List Byte := [BitVec.ofNat 8 n]

/-- A two-byte field; a negative value is in two's complement. -/
def put16 (x : Int) : List Byte :=
  let n := (x % 65536).toNat
  [BitVec.ofNat 8 (n / 256), BitVec.ofNat 8 n]

/-- The word of a four-byte signed field: two's complement for a value that 32 bits hold, and otherwise the free
value of the model (notes/assumptions/40). -/
def fieldWord (x : Int) : BitVec 32 :=
  if -2147483648 ≤ x ∧ x ≤ 2147483647 then BitVec.ofInt 32 x else Config.wideField x

/-- A four-byte signed field; a value that 32 bits do not hold is written as the free value of
notes/assumptions/40. -/
def put32 (x : Int) : List Byte :=
  let n := (fieldWord x).toNat
  [BitVec.ofNat 8 (n / 16777216), BitVec.ofNat 8 (n / 65536), BitVec.ofNat 8 (n / 256),
    BitVec.ofNat 8 n]

/-- A four-byte field that may be absent. -/
def putOpt32 (x : Option Int) : List Byte := put32 (x.getD absent32)

/-- A two-byte ceiling that may be absent (0xFFFF). -/
def putOpt16 (x : Option Nat) : List Byte := put16 ((x.map Int.ofNat).getD 0xFFFF)

/-- A time since start: the remainder of the count of ms divided by 2,147,483,648. -/
def putTime (t : Nat) : List Byte := put32 ((t % 2147483648 : Nat) : Int)

/-- A time that may be absent. -/
def putOptTime (t : Option Nat) : List Byte :=
  match t with
  | some t => putTime t
  | none => put32 absent32

/-- A level or destination that may be absent (0xFF). -/
def putLevelNumber (n : Option Nat) : List Byte := put8 (n.getD 0xFF)

/-- A yes/no field. -/
def putBool (b : Bool) : List Byte := put8 b.toNat

/-- A three-byte set (R199). -/
def putSet (m : SubjectSet) : List Byte :=
  [BitVec.ofNat 8 (m.toNat / 65536), BitVec.ofNat 8 (m.toNat / 256), BitVec.ofNat 8 m.toNat]

/-- A byte of flags, bit 0 first. -/
def flagByte : List Bool → Nat
  | [] => 0
  | b :: rest => b.toNat + 2 * flagByte rest

/-! ## Codes (R199) -/

def drumNumber : Drum → Nat
  | .d1 => 1
  | .d2 => 2

def drumOf : Nat → Option Drum
  | 1 => some .d1
  | 2 => some .d2
  | _ => none

def convNumber : Conveyance → Nat
  | .cage => 1
  | .counterweight => 2
  | .skip => 3

def convOf : Nat → Option Conveyance
  | 1 => some .cage
  | 2 => some .counterweight
  | 3 => some .skip
  | _ => none

def compNumber : Compartment → Nat
  | .c => 1
  | .w => 2
  | .s => 3

def compOf : Nat → Option Compartment
  | 1 => some .c
  | 2 => some .w
  | 3 => some .s
  | _ => none

def kindNumber : Kind → Nat
  | .personnel => 1
  | .material => 2
  | .rock => 3
  | .search => 4
  | .inspect => 5

def kindOf : Nat → Option Kind
  | 1 => some .personnel
  | 2 => some .material
  | 3 => some .rock
  | 4 => some .search
  | 5 => some .inspect
  | _ => none

def tripStateNumber : TripState → Nat
  | .pending => 1
  | .ready => 2
  | .active => 3
  | .suspended => 4

/-- A set of confirmations: ORIGIN, DEST, CONSOLE, PANEL in bits 0 to 3. -/
def confsByte (c : Confs) : Nat := flagByte [c.origin, c.dest, c.console, c.panel]

def tripEndNumber : TripEnd → Nat
  | .arrived => 1
  | .aborted _ => 2
  | .withdrawn _ => 3
  | .expired => 4

def withdrawReasonNumber : WithdrawReason → Nat
  | .console => 1
  | .cancelled => 2
  | .requesterLost => 3
  | .levelOut => 4
  | .commission => 5

/-- The detail byte of a TRIP notice (R202). -/
def tripEndDetail : TripEnd → Nat
  | .arrived => 0
  | .aborted inWindow => inWindow.toNat
  | .withdrawn reason => withdrawReasonNumber reason
  | .expired => 0

def tripCauseNumber : TripCause → Nat
  | .admitted => 1
  | .confirmed => 2
  | .revoked => 3
  | .orphaned => 4
  | .started => 5
  | .resumed => 6
  | .suspended => 7
  | .removed => 8

def actionNumber : Action → Nat
  | .emergency => 1
  | .controlled => 2
  | .creep => 3
  | .report => 4
  | .off => 5

def actionOf : Nat → Option Action
  | 1 => some .emergency
  | 2 => some .controlled
  | 3 => some .creep
  | 4 => some .report
  | 5 => some .off
  | _ => none

def recoveryNumber : Recovery → Nat
  | .latched => 1
  | .retry => 2
  | .self => 3

def recoveryOf : Nat → Option Recovery
  | 1 => some .latched
  | 2 => some .retry
  | 3 => some .self
  | _ => none

def faultCauseNumber : FaultCause → Nat
  | .raised => 1
  | .added => 2
  | .held => 3
  | .subjectGone => 4
  | .changed => 5
  | .removed => 6

def removalReasonNumber : Option RemovalReason → Nat
  | none => 0
  | some .self => 1
  | some .cleared => 2
  | some .retry => 3
  | some .config => 4

def posNumber : PosState → Nat
  | .unknown => 0
  | .reconciled => 1
  | .suspect => 2

def dirNumber : Option Dir → Nat
  | none => 0
  | some .down => 1
  | some .up => 2

def dirOf : Nat → Option Dir
  | 1 => some .down
  | 2 => some .up
  | _ => none

def roleNumber : Role → Nat
  | .bank => 1
  | .level => 2
  | .loading => 3
  | .tip => 4
  | .cagePanel => 5

def roleOf : Nat → Option Role
  | 1 => some .bank
  | 2 => some .level
  | 3 => some .loading
  | 4 => some .tip
  | 5 => some .cagePanel
  | _ => none

/-- The winder state code. -/
def winderNumber : Winder → Nat
  | .commission => 0
  | .parked => 1
  | .changeover => 2
  | .running _ => 3
  | .stopping _ => 4
  | .halted => 5
  | .tripped => 6

/-- The run phase or stop stage code. -/
def phaseNumber : Winder → Nat
  | .commission => 0
  | .parked => 0
  | .changeover => 0
  | .running .proving => 1
  | .running .moving => 2
  | .running .settling => 3
  | .stopping .decelerating => 4
  | .stopping .setting => 5
  | .halted => 0
  | .tripped => 0

def winderCauseNumber : WinderCause → Nat
  | .start => 1
  | .resume => 2
  | .changeoverDone => 3
  | .proven => 4
  | .arrival => 5
  | .settled => 6
  | .stop => 7
  | .controlled => 8
  | .standstill => 9
  | .suspended => 10
  | .emergency => 11
  | .cleared => 12
  | .withdrawn => 13
  | .searchStep => 14
  | .commission => 15
  | .commit => 16

def settleNumber : Option SettleEnd → Nat
  | none => 0
  | some .arrived => 1
  | some .aborted => 2

def sourceNumber : Source → Nat
  | .none => 0
  | .braked => 1
  | .base => 2
  | .zone _ => 3
  | .retard _ => 4
  | .retardPast => 5
  | .creep => 6
  | .hold => 7
  | .stop => 8
  | .ramp => 9

/-- The zone or row number of a ceiling source, or 0. -/
def sourceIndex : Source → Nat
  | .zone n => n
  | .retard row => row
  | .none => 0
  | .braked => 0
  | .base => 0
  | .retardPast => 0
  | .creep => 0
  | .hold => 0
  | .stop => 0
  | .ramp => 0

def markCauseNumber : MarkCause → Nat
  | .accepted => 1
  | .slip => 2
  | .missed => 3
  | .search => 4

def editCauseNumber : EditCause → Nat
  | .immediate => 1
  | .parked => 2
  | .dropped => 3

def storeEndNumber : StoreEnd → Nat
  | .written => 1
  | .failed => 2
  | .erased => 3

def linkNumber : LinkState → Nat
  | .unheard => 0
  | .online => 1
  | .missing => 2
  | .lost => 3

def clutchStateNumber : ClutchState → Nat
  | .engaged => 1
  | .free => 2
  | .engaging => 3
  | .releasing => 4
  | .unsure => 5

def readingNumber : ClutchReading → Nat
  | .atEngaged => 1
  | .atFree => 2
  | .between => 3
  | .conflict => 4

def watchNumber : Watch → Nat
  | .none => 0
  | .fade _ _ => 1
  | .held _ _ => 2

/-- The movement under way of a changeover (R204). -/
def movementNumber : Option Movement → Nat
  | none => 0
  | some .release => 1
  | some .engage => 2

/-- The result byte (section 10.2). -/
def resultByte : Result → Byte
  | .ok => 0x00
  | .unknownKind => 0x01
  | .badLength => 0x02
  | .wrongState => 0x03
  | .outOfRange => 0x04
  | .queueFull => 0x05
  | .duplicate => 0x06
  | .notPermitted => 0x07
  | .notPlaced => 0x08
  | .noSuchTrip => 0x09
  | .noSuchLevel => 0x0A
  | .notReady => 0x0B
  | .active => 0x0C
  | .inhibited => 0x0D
  | .busy => 0x0E
  | .stageFull => 0x0F
  | .invalidConfig => 0x10
  | .linkFull => 0x11
  | .accepted => 0x20
  | .confirmed => 0x21
  | .gatesOpen => 0x22
  | .nothingToConfirm => 0x23
  | .cancelled => 0x24
  | .notYours => 0x25
  | .notOnline => 0x26

/-- The status byte of a station: bit 0 gates OPEN, bit 1 hold pressed. -/
def stationStatus (gatesOpen hold : Bool) : Nat := flagByte [gatesOpen, hold]

/-! ## Permission masks (R199) -/

/-- The three bytes of a mask: signal set, conveyance set, kind set. -/
def putMask (m : Mask) : List Byte :=
  put8 (flagByte [m.call, m.ready, m.cancel]) ++ put8 (flagByte [m.cage, m.skip]) ++
    put8 (flagByte [m.personnel, m.material, m.rock, m.search, m.inspect])

/-- The mask written at place `i`, or none when a set bit names no member (R198). -/
def maskAt (b : List Byte) (i : Nat) : Option Mask :=
  let sig := byteAt b i
  let conv := byteAt b (i + 1)
  let kind := byteAt b (i + 2)
  if sig.toNat < 8 ∧ conv.toNat < 4 ∧ kind.toNat < 32 then
    some {
      call := sig.getLsbD 0
      ready := sig.getLsbD 1
      cancel := sig.getLsbD 2
      cage := conv.getLsbD 0
      skip := conv.getLsbD 1
      personnel := kind.getLsbD 0
      material := kind.getLsbD 1
      rock := kind.getLsbD 2
      search := kind.getLsbD 3
      inspect := kind.getLsbD 4 }
  else none

/-- The conveyance set of a mask holds the conveyance; the COUNTERWEIGHT is in no mask. -/
def maskHasConv (m : Mask) : Conveyance → Bool
  | .cage => m.cage
  | .skip => m.skip
  | .counterweight => false

/-- The kind set of a mask holds the kind. -/
def maskHasKind (m : Mask) : Kind → Bool
  | .personnel => m.personnel
  | .material => m.material
  | .rock => m.rock
  | .search => m.search
  | .inspect => m.inspect

/-- R14: each of the three sets of `m` is a subset of the same set of `old`. -/
def maskWithin (m old : Mask) : Bool :=
  (!m.call || old.call) && (!m.ready || old.ready) && (!m.cancel || old.cancel) &&
  (!m.cage || old.cage) && (!m.skip || old.skip) && (!m.personnel || old.personnel) &&
  (!m.material || old.material) && (!m.rock || old.rock) && (!m.search || old.search) &&
  (!m.inspect || old.inspect)

/-! ## Service edits (R201) -/

/-- The five bytes of an edit: type, index, value 3. -/
def putEdit : Edit → List Byte
  | .zoneCeiling z c => put8 1 ++ put8 z ++ put8 0 ++ put16 c
  | .zoneEnable z on => put8 2 ++ put8 z ++ put8 0 ++ put8 0 ++ putBool on
  | .levelEnable l on => put8 3 ++ put8 l ++ put8 0 ++ put8 0 ++ putBool on
  | .stationMask n m => put8 4 ++ put8 n ++ putMask m

/-! ## Check values -/

/-- One step of the 8-bit register of R175, polynomial 0x1D. -/
def checkStep (r : BitVec 8) : BitVec 8 := if r.msb then (r <<< 1) ^^^ 0x1D else r <<< 1

/-- R175: a byte combined into the register, which is then stepped eight times. -/
def checkByte (r : BitVec 8) (b : Byte) : BitVec 8 :=
  checkStep (checkStep (checkStep (checkStep (checkStep (checkStep (checkStep (checkStep
    (r ^^^ b))))))))

/-- R175: the check value of a frame's bytes, the register starting at 0xFF. -/
def frameCheck (bytes : List Byte) : BitVec 8 := bytes.foldl checkByte 0xFF

/-- One step of the 16-bit register of R187, polynomial 0x1021. -/
def imageStep (r : BitVec 16) : BitVec 16 := if r.msb then (r <<< 1) ^^^ 0x1021 else r <<< 1

/-- R187: a byte combined into the upper 8 bits of the register, which is then stepped eight times. -/
def imageByte (r : BitVec 16) (b : Byte) : BitVec 16 :=
  imageStep (imageStep (imageStep (imageStep (imageStep (imageStep (imageStep (imageStep
    (r ^^^ (b.zeroExtend 16 <<< 8)))))))))

/-- R187: the check value of an image's content bytes, the register starting at 0xFFFF. -/
def bytesCheck (bytes : List Byte) : BitVec 16 := bytes.foldl imageByte 0xFFFF

/-- R187: the check value of the image that holds a configuration; its bytes are a free value
(notes/assumptions/2). -/
def configCheck (c : Configuration) : BitVec 16 := bytesCheck (Config.imageContent c)

/-- R187: the image is valid when its mark is set and its check value agrees with its content. -/
def Image.valid (im : Image) : Bool := im.mark && im.check == configCheck im.content

/-! ## The kinds of requests (R201) -/

/-- The body lengths allowed for a request kind, or none where the code names no request. -/
def requestLengths (kind : Byte) : Option (List Nat) :=
  match kind.toNat with
  | 0x01 => some [5]
  | 0x02 => some [11]
  | 0x03 => some [14]
  | 0x04 => some [9]
  | 0x05 => some [7]
  | 0x06 => some [7]
  | 0x07 => some [4]
  | 0x08 => some [0]
  | 0x09 => some [0]
  | 0x10 => some [3]
  | 0x11 => some [1]
  | 0x12 => some [1]
  | 0x13 => some [0, 1]
  | 0x14 => some [0]
  | 0x15 => some [0]
  | 0x16 => some [6]
  | 0x17 => some [5]
  | 0x18 => some [0]
  | 0x19 => some [0]
  | 0x1A => some [0]
  | 0x1B => some [0]
  | 0x20 => some [0]
  | 0x21 => some [1]
  | 0x22 => some [1]
  | 0x23 => some [1]
  | 0x24 => some [1]
  | 0x25 => some [0]
  | 0x26 => some [1]
  | 0x27 => some [0]
  | 0x28 => some [1]
  | 0x29 => some [1]
  | 0x2A => some [1]
  | 0x2B => some [1]
  | _ => none

/-- R178: the KIND of the reply to a request. -/
def replyKind (kind : Byte) : Byte := if kind.toNat < 0x80 then kind + 0x80 else kind

end Sys2Proof.Machine
end

