-- ==== Sys2Proof/Machine/Ops.lean ====
section
/-! DEFINITION. The named operations every block uses: writing one block's state, the clock, number-keyed
tables, sets of subjects, the notice queue and transmitter (R180, R181), and the receive buffer's
replies (R176 to R178). -/

namespace Sys2Proof.Machine

/-! ## Writing one block's state -/

def State.onHlc (f : Hlc → Hlc) (s : State) : State := { s with hlc := f s.hlc }
def State.onSlc (f : Slc → Slc) (s : State) : State := { s with slc := f s.slc }
def State.onPfu (f : Pfu → Pfu) (s : State) : State := { s with pfu := f s.pfu }
def State.onDpt (f : Dpt → Dpt) (s : State) : State := { s with dpt := f s.dpt }
def State.onTqm (f : Tqm → Tqm) (s : State) : State := { s with tqm := f s.tqm }
def State.onMsq (f : Msq → Msq) (s : State) : State := { s with msq := f s.msq }
def State.onCpl (f : Cpl → Cpl) (s : State) : State := { s with cpl := f s.cpl }
def State.onPrt (f : Prt → Prt) (s : State) : State := { s with prt := f s.prt }
def State.onCfs (f : Cfs → Cfs) (s : State) : State := { s with cfs := f s.cfs }

/-- The clock at time `t`. -/
def State.at (t : Nat) (s : State) : State := { s with now := t }

/-! ## The clock (R198; notes/assumptions/1) -/

/-- The count of ms is 48 bits wide. -/
def clockSize : Nat := 281474976710656

/-- The clock carried to time `t`, if it stands earlier. -/
def advanceTo (t : Nat) (s : State) : State := s.at (max s.now t % clockSize)

/-- One millisecond passes. -/
def tick (s : State) : State := s.at ((s.now + 1) % clockSize)

/-! ## Number-keyed tables -/

/-- The item at key `k`, or none where the key is absent. -/
def tableGet {α : Type} (k : Nat) : Table α → Option α
  | [] => none
  | (j, a) :: rest => if j = k then some a else tableGet k rest

/-- The table with the item at key `k` written; keys stay in rising order. -/
def tablePut {α : Type} (k : Nat) (a : α) : Table α → Table α
  | [] => [(k, a)]
  | (j, b) :: rest =>
    if k < j then (k, a) :: (j, b) :: rest
    else if k = j then (k, a) :: rest
    else (j, b) :: tablePut k a rest

/-- The table with key `k` absent. -/
def tableDel {α : Type} (k : Nat) (t : Table α) : Table α := t.filter (fun p => p.1 != k)

/-- The keys of a table stand in strictly rising order. -/
def tableSorted {α : Type} : Table α → Bool
  | [] => true
  | [_] => true
  | (j, _) :: (k, b) :: rest => decide (j < k) && tableSorted ((k, b) :: rest)

/-! ## Sets of subjects (R199) -/

/-- The set that holds subject `n` alone; no number outside 1 to 24 is a member of any set. -/
def setOne (n : Nat) : SubjectSet := if n = 0 then 0 else (1 : BitVec 24) <<< (n - 1)

/-- Membership. -/
def setHas (m : SubjectSet) (n : Nat) : Bool := n != 0 && m.getLsbD (n - 1)

def setInsert (n : Nat) (m : SubjectSet) : SubjectSet := m ||| setOne n

def setErase (n : Nat) (m : SubjectSet) : SubjectSet := m &&& ~~~(setOne n)

/-- The set of the numbers of a list. -/
def setOf (ns : List Nat) : SubjectSet := ns.foldl (fun m n => setInsert n m) 0

/-- The numbers 1 to 24. -/
def subjectNumbers : List Nat := (List.range 24).map (· + 1)

/-- The members of a set in ascending number. -/
def setMembers (m : SubjectSet) : List Nat := subjectNumbers.filter (fun n => setHas m n)

/-! ## Transmission and notices (R180, R181) -/

/-- The drain is on and the RESTART reply has gone out, so that no further frame is chosen (R185). -/
def restartSent (h : Hlc) : Bool :=
  match h.drain with
  | .on _ => h.places.isEmpty
  | .off => false

/-- R180: the next frame for a transmitter that has nothing to send: the reply formed earliest, else the
notice at the head of the queue, else none. -/
def chooseNext (h : Hlc) : Hlc :=
  if restartSent h then { h with tx := .idle }
  else if h.places.isEmpty then
    match h.notices with
    | [] => { h with tx := .idle }
    | q :: rest => { h with tx := .notice q, notices := rest }
  else { h with tx := .reply }

/-- R180: an idle transmitter chooses as soon as there is something to send. -/
def wakeTx (h : Hlc) : Hlc :=
  match h.tx with
  | .idle => chooseNext h
  | .reply => h
  | .notice _ => h

/-- R181: a notice joins the tail of the queue, taking the loss mark if one is pending, or is lost. -/
def queueNotice (n : Notice) (h : Hlc) : Hlc :=
  if h.notices.length < 32 then
    { h with notices := h.notices ++ [⟨n, h.lossFlag⟩], lossFlag := false }
  else { h with lossFlag := true }

/-- R181: a block hands a notice to the HLC. -/
def notify (n : Notice) (s : State) : State := s.onHlc (fun h => wakeTx (queueNotice n h))

/-- Several notices, in order. -/
def notifyAll (ns : List Notice) (s : State) : State := ns.foldl (fun st n => notify n st) s

/-! ## Replies (R176 to R178) -/

/-- The reply to a request and what the request then does to the part. -/
structure Answer where
  body : List Byte
  act : State → State

/-- A refusal: the result byte alone, and no change of state (R178, R200). -/
def refuse (r : Result) : Answer := ⟨[resultByte r], id⟩

/-- An OK reply with the given content. -/
def accept (content : List Byte) (act : State → State) : Answer := ⟨resultByte .ok :: content, act⟩

/-- The number of frame places occupied. -/
def framePlaces (h : Hlc) : Nat := (h.places.filter (fun p => !p.refusal)).length

/-- The number of refusal places occupied. -/
def refusalPlaces (h : Hlc) : Nat := (h.places.filter (fun p => p.refusal)).length

/-- A reply is formed and waits in its place (R176, R177). -/
def formReply (p : Place) (s : State) : State :=
  s.onHlc (fun h => wakeTx { h with places := h.places ++ [p] })

/-- R178: the two checks of the HLC on a frame taken, then the owner's answer. -/
def checkedAnswer (kind : Byte) (body : List Byte) (owner : Answer) : Answer :=
  match requestLengths kind with
  | none => refuse .unknownKind
  | some lens => if body.length ∈ lens then owner else refuse .badLength

/-- R175 to R178: a well-formed frame arrives. The hunter returns to HUNT; the frame is placed, taken and
answered, or refused LINK_FULL, or discarded. While the restart drain is on nothing is taken (R185). -/
def takeFrame (kind tag : Byte) (body : List Byte) (owner : Answer) (s : State) : State :=
  match s.hlc.drain with
  | .on _ => s
  | .off =>
    let s := s.onHlc (fun h => { h with hunter := .hunt, lastByte := s.now })
    if framePlaces s.hlc < 4 then
      let a := checkedAnswer kind body owner
      a.act (formReply ⟨false, kind, tag, a.body⟩ s)
    else if refusalPlaces s.hlc < 4 then
      formReply ⟨true, kind, tag, [resultByte .linkFull]⟩ s
    else s

/-- What a command does to a part under supply; a part without supply takes none
(notes/assumptions/6). -/
def whenPowered (f : State → State) (s : State) : Host.Outcome State Fault Refusal :=
  if s.powered then .next (f s) else .next s

/-- A host request as a command: the whole frame that carries it (notes/assumptions/5). -/
def hostRequest (kind tag : Byte) (body : List Byte) (owner : List Byte → State → Answer)
    (s : State) : Host.Outcome State Fault Refusal :=
  whenPowered (fun s => takeFrame kind tag body (owner body s) s) s

/-! ## The configuration that acts -/

/-- The configuration whose parameters and tables every block uses: the one in force, or without one the
defaults (R191). -/
def cfg (s : State) : Configuration := s.cfs.inForce.getD defaultConfiguration

/-- The configuration the commissioning requests write and the marked queries read in COMMISSION. -/
def workingCfg (s : State) : Configuration := s.cfs.working.getD defaultConfiguration

/-- The winder is in COMMISSION. -/
def inCommission (s : State) : Bool := s.msq.winder = .commission

/-- A store write is in flight (R189). -/
def writing (s : State) : Bool := s.cfs.write.isSome

/-- R191, R194: the configuration read by GET_PARAM, GET_LEVEL, GET_ZONE, GET_STATIONS and
GET_PROTECTION. -/
def readCfg (s : State) : Configuration := if inCommission s then workingCfg s else cfg s

end Sys2Proof.Machine
end

