-- ==== Sys2Proof/Machine/Profile.lean ====
section
/-! DEFINITION. The Profile Unit's lookups (R2 to R11): levels, travel limits, zones, retard tables and
marks of a configuration. -/

namespace Sys2Proof.Machine

/-! ## The winder arrangement (00_scope) -/

/-- The drum that moves a conveyance. -/
def convDrum : Conveyance → Drum
  | .cage => .d1
  | .counterweight => .d1
  | .skip => .d2

/-- The conveyance of a compartment (R31). -/
def compConv : Compartment → Conveyance
  | .c => .cage
  | .w => .counterweight
  | .s => .skip

/-- The compartment of a conveyance. -/
def convComp : Conveyance → Compartment
  | .cage => .c
  | .counterweight => .w
  | .skip => .s

/-- The conveyances of a drum. -/
def drumConvs : Drum → List Conveyance
  | .d1 => [.cage, .counterweight]
  | .d2 => [.skip]

/-- The reference conveyance of a drum (section 2.9). -/
def referenceConv : Drum → Conveyance
  | .d1 => .cage
  | .d2 => .skip

/-- The other drum. -/
def otherDrum : Drum → Drum
  | .d1 => .d2
  | .d2 => .d1

/-- COUNTS_PER_10M of a drum. -/
def scaleOf (p : Params) : Drum → Int
  | .d1 => p.counts1
  | .d2 => p.counts2

/-- The base depth of a conveyance (R23). -/
def baseOf (p : Params) : Conveyance → Int
  | .cage => p.cageBase
  | .counterweight => p.cwBase
  | .skip => p.skipBase

/-- The top and bottom travel limits of a conveyance (section 1.3). -/
def limitsOf (p : Params) : Conveyance → Int × Int
  | .cage => (p.cageTop, p.cageBottom)
  | .counterweight => (p.cwTop, p.cwBottom)
  | .skip => (p.skipTop, p.skipBottom)

/-- The retard table of a drum. -/
def retardOf (c : Configuration) : Drum → Table RetardRow
  | .d1 => c.retard1
  | .d2 => c.retard2

/-- The mark table of a compartment. -/
def marksOf (c : Configuration) : Compartment → Table Int
  | .c => c.marksC
  | .w => c.marksW
  | .s => c.marksS

/-- The distance between two depths, in cm. -/
def distance (a b : Int) : Nat := (a - b).natAbs

/-! ## Levels (R2 to R4) -/

/-- The stop depth a level entry holds for a conveyance. -/
def entryStop (e : LevelEntry) : Conveyance → Option Int
  | .cage => e.cage
  | .skip => e.skip
  | .counterweight => none

/-- R3: the stop-depth lookup; for the COUNTERWEIGHT the derived counterweight depth. -/
def stopDepth (c : Configuration) (conv : Conveyance) (level : Nat) : Option Int :=
  match tableGet level c.levels with
  | none => none
  | some e =>
    match conv with
    | .cage => e.cage
    | .skip => e.skip
    | .counterweight => e.cage.map (fun d => c.params.linkSum - d)

/-- R2: the level serves the conveyance. -/
def levelServes (c : Configuration) (conv : Conveyance) (level : Nat) : Bool :=
  match tableGet level c.levels with
  | none => false
  | some e => e.enabled && (entryStop e conv).isSome

/-- The better of a candidate and the best so far: strictly nearer wins, so that of two equally near
levels the lower-numbered stays (R4). -/
def nearerLevel (best : Option (Nat × Nat)) (n dist : Nat) : Option (Nat × Nat) :=
  match best with
  | none => some (n, dist)
  | some b => if dist < b.2 then some (n, dist) else some b

/-- R4: the current-level lookup; none is "outside every stop window". -/
def currentLevel (c : Configuration) (conv : Conveyance) (depth : Int) : Option Nat :=
  (c.levels.foldl (fun best p =>
    match entryStop p.2 conv with
    | none => best
    | some stop =>
      if (distance stop depth : Int) ≤ c.params.stopWindow then
        nearerLevel best p.1 (distance stop depth)
      else best) none).map (fun b => b.1)

/-! ## Travel limits (R5) -/

/-- R5: the depth is beyond the conveyance's travel limit. -/
def beyondLimit (c : Configuration) (conv : Conveyance) (depth : Int) : Bool :=
  depth < (limitsOf c.params conv).1 || (limitsOf c.params conv).2 < depth

/-! ## Zones (R6, R7) -/

/-- R6: the zone covers the depth. -/
def zoneCovers (z : ZoneEntry) (depth : Int) : Bool :=
  z.start ≤ depth && depth ≤ z.start + z.range

/-- The lower of two zone ceilings (zone number, ceiling); of two equal ones the first stays. -/
def lowerZone (best : Option (Nat × Nat)) (n ceiling : Nat) : Option (Nat × Nat) :=
  match best with
  | none => some (n, ceiling)
  | some b => if ceiling < b.2 then some (n, ceiling) else some b

/-- R7: the zone-ceiling lookup for a compartment and a depth, with the zone's number. -/
def zoneCeiling (c : Configuration) (comp : Compartment) (depth : Int) : Option (Nat × Nat) :=
  c.zones.foldl (fun best p =>
    if p.2.enabled && p.2.comp == comp && zoneCovers p.2 depth then lowerZone best p.1 p.2.ceiling
    else best) none

/-- R7 and R125: the drum zone ceiling over the drum's conveyances, each at its own depth; of equal
ceilings the lower-numbered zone is named. -/
def drumZoneCeiling (c : Configuration) (drum : Drum) (depth : Conveyance → Int) :
    Option (Nat × Nat) :=
  c.zones.foldl (fun best p =>
    if p.2.enabled && decide (convDrum (compConv p.2.comp) = drum) &&
        zoneCovers p.2 (depth (compConv p.2.comp))
    then lowerZone best p.1 p.2.ceiling else best) none

/-! ## Retard tables (R8, R9) -/

/-- The lowest-numbered row whose distance is at least `d`. -/
def retardRowFor (d : Int) : Table RetardRow → Option (Nat × RetardRow)
  | [] => none
  | (n, r) :: rest => if d ≤ r.distance then some (n, r) else retardRowFor d rest

/-- R9: the retard-ceiling lookup with its source; none where the table sets no limit. -/
def retardCeiling (c : Configuration) (drum : Drum) (d : Int) : Option (Nat × Source) :=
  let rows := retardOf c drum
  let window := c.params.stopWindow
  if (match rows.getLast? with | some r => decide (d > r.2.distance) | none => true) then none
  else if d > window then (retardRowFor d rows).map (fun r => (r.2.ceiling, .retard r.1))
  else if d ≥ -window then rows.head?.map (fun r => (r.2.ceiling, .retard r.1))
  else some (0, .retardPast)

/-! ## Marks (R10) -/

/-- R10: the nearest mark to a depth; at equal distance the shallower. -/
def nearestMark (marks : Table Int) (depth : Int) : Option (Nat × Int) :=
  marks.foldl (fun best p =>
    match best with
    | none => some p
    | some b =>
      if distance p.2 depth < distance b.2 depth ∨
          (distance p.2 depth = distance b.2 depth ∧ p.2 < b.2) then some p
      else some b) none

/-- R10: the nearest mark strictly beyond a depth in a direction. -/
def nextMark (marks : Table Int) (dir : Dir) (depth : Int) : Option (Nat × Int) :=
  marks.foldl (fun best p =>
    match dir with
    | .down =>
      if p.2 > depth then
        match best with
        | none => some p
        | some b => if p.2 < b.2 then some p else some b
      else best
    | .up =>
      if p.2 < depth then
        match best with
        | none => some p
        | some b => if p.2 > b.2 then some p else some b
      else best) none

/-! ## Base speeds (R122) -/

/-- The base speed of a trip kind. -/
def baseSpeed (p : Params) : Kind → Nat
  | .personnel => p.personnelSpeed.toNat
  | .material => p.materialSpeed.toNat
  | .rock => p.rockSpeed.toNat
  | .inspect => p.inspectSpeed.toNat
  | .search => p.creepSpeed.toNat

end Sys2Proof.Machine
end

