-- ==== Sys2Proof/Machine/Depth.lean ====
section
/-! DEFINITION. The Depth Tracker's quantities (R23, R25, R36): rope lengths, depths, speeds, the
next-expected mark, and the writing of one drum's or one conveyance's record. -/

namespace Sys2Proof.Machine

/-! ## Records by name -/

/-- What the DPT holds for a drum. -/
def drumTrack (s : State) : Drum → DrumTrack
  | .d1 => s.dpt.drum1
  | .d2 => s.dpt.drum2

/-- The record of a drum written. -/
def onDrum (d : Drum) (f : DrumTrack → DrumTrack) (s : State) : State :=
  s.onDpt (fun p => match d with
    | .d1 => { p with drum1 := f p.drum1 }
    | .d2 => { p with drum2 := f p.drum2 })

/-- What the DPT holds for a conveyance. -/
def convTrack (s : State) : Conveyance → ConvTrack
  | .cage => s.dpt.cage
  | .counterweight => s.dpt.counterweight
  | .skip => s.dpt.skip

/-- The record of a conveyance written. -/
def onConv (c : Conveyance) (f : ConvTrack → ConvTrack) (s : State) : State :=
  s.onDpt (fun p => match c with
    | .cage => { p with cage := f p.cage }
    | .counterweight => { p with counterweight := f p.counterweight }
    | .skip => { p with skip := f p.skip })

/-! ## Lengths, depths and speeds (R23, R25) -/

/-- A configuration is in force, so that depths and speeds exist (R23). -/
def hasDepth (s : State) : Bool := s.cfs.inForce.isSome

/-- R23: the rope length of a drum at a count. -/
def ropeLength (p : Params) (d : Drum) (count : Int) : Int := (count * 1000).tdiv (scaleOf p d)

/-- R23: the rope length as it enters a conveyance's depth. -/
def signedRope (p : Params) (conv : Conveyance) (count : Int) : Int :=
  match conv with
  | .cage => ropeLength p .d1 count
  | .counterweight => -ropeLength p .d1 count
  | .skip => ropeLength p .d2 count

/-- R23: the depth of a conveyance at a count of its drum. -/
def depthAt (s : State) (conv : Conveyance) (count : Int) : Int :=
  baseOf (cfg s).params conv + signedRope (cfg s).params conv count +
    ((convTrack s conv).datum + (convTrack s conv).drift)

/-- The depth of a conveyance as the Depth Tracker last gave it (R40). -/
def depthOf (s : State) (conv : Conveyance) : Int :=
  depthAt s conv (drumTrack s (convDrum conv)).used

/-- The depth, absent while no configuration is in force (R23). -/
def depthKnown (s : State) (conv : Conveyance) : Option Int :=
  if hasDepth s then some (depthOf s conv) else none

/-- R25: the speed of a drum from the newest and oldest counts of its history. -/
def historySpeed (p : Params) (d : Drum) (history : List Int) : Int :=
  ((history.headD 0 - history.getLastD 0) * 10000).tdiv (scaleOf p d)

/-- R25: the speed of a conveyance, positive downward. -/
def convSpeed (s : State) (conv : Conveyance) : Int :=
  match conv with
  | .cage => s.dpt.drum1.speed
  | .counterweight => -s.dpt.drum1.speed
  | .skip => s.dpt.drum2.speed

/-- The drum is at standstill (R26). -/
def atStandstill (s : State) (d : Drum) : Bool := (drumTrack s d).standstill

/-- The position state of a conveyance. -/
def posOf (s : State) (conv : Conveyance) : PosState := (convTrack s conv).pos

/-- The conveyance's position state is UNKNOWN. -/
def isUnknown (s : State) (conv : Conveyance) : Bool := posOf s conv = .unknown

/-! ## The next-expected mark (R36) -/

/-- R36: the mark found ahead of a depth in a direction of travel. -/
def aimFrom (s : State) (conv : Conveyance) (dir : Option Dir) (depth : Int) : Option Nat :=
  match dir with
  | none => none
  | some d => (nextMark (marksOf (cfg s) (convComp conv)) d depth).map (fun m => m.1)

/-- The next-expected mark recomputed from the conveyance's present depth; absent while UNKNOWN. -/
def reaim (conv : Conveyance) (s : State) : State :=
  onConv conv (fun c => { c with
    expected := if isUnknown s conv then none else aimFrom s conv c.dir (depthOf s conv) }) s

end Sys2Proof.Machine
end

