-- ==== Sys2Proof/Machine/Trips.lean ====
section
/-! DEFINITION. The Trip Queue Manager's operations (Chapter 3): confirmations and their sources, the
origin status, claims on the queue with their TRIP notices, admission, and the choice of the trip that
START takes. -/

namespace Sys2Proof.Machine

/-! ## Kinds and confirmations (R52) -/

/-- No confirmation. -/
def noConfs : Confs := ⟨false, false, false, false⟩

/-- R52: the required set of a kind at admission. -/
def requiredFor : Kind → Confs
  | .personnel => ⟨true, true, true, false⟩
  | .material => ⟨true, false, true, false⟩
  | .rock => ⟨true, false, false, false⟩
  | .inspect => ⟨false, false, true, true⟩
  | .search => ⟨false, false, true, false⟩

/-- R52: the kind suits the conveyance; SEARCH is placed by RECONCILE alone. -/
def kindSuits : Kind → Conveyance → Bool
  | .personnel, conv => conv = .cage
  | .material, conv => conv = .cage
  | .rock, conv => conv = .skip
  | .inspect, conv => conv = .cage
  | .search, _ => false

/-- The trip waits: PENDING or READY. -/
def waiting (t : Trip) : Bool :=
  match t.state with
  | .pending => true
  | .ready => true
  | .active => false
  | .suspended => false

/-! ## Sources (R53, R83) -/

/-- R83: the conveyance a role serves. -/
def roleConv : Role → Option Conveyance
  | .bank => some .cage
  | .level => some .cage
  | .loading => some .skip
  | .tip => some .skip
  | .cagePanel => none

/-- R83: the station serves the level for the conveyance, the level entry holding its stop depth. -/
def stationServes (c : Configuration) (e : StationEntry) (conv : Conveyance) (level : Nat) : Bool :=
  decide (roleConv e.role = some conv) && decide (e.level = some level) &&
    (stopDepth c conv level).isSome

/-- The station serving a level for a conveyance, or none. -/
def stationFor (c : Configuration) (conv : Conveyance) (level : Nat) : Option Nat :=
  (c.stations.find? (fun p => stationServes c p.2 conv level)).map (fun p => p.1)

/-- The enrolled CAGE_PANEL station, or none. -/
def panelStation (c : Configuration) : Option Nat :=
  (c.stations.find? (fun p => decide (p.2.role = .cagePanel))).map (fun p => p.1)

/-- The origin status of a conveyance; the COUNTERWEIGHT has none. -/
def originOf (q : Tqm) : Conveyance → OriginStatus
  | .cage => q.originCage
  | .skip => q.originSkip
  | .counterweight => .unset

/-- R53: the source of ORIGIN for the conveyance's trips. -/
def originSource (s : State) (conv : Conveyance) : Option Nat :=
  match originOf s.tqm conv with
  | .atLevel n => stationFor (cfg s) conv n
  | .outside => none
  | .unset => none

/-- R53: the source of DEST for a trip. -/
def destSource (s : State) (t : Trip) : Option Nat :=
  match t.dest with
  | none => none
  | some level => stationFor (cfg s) t.conv level

/-! ## Claims on the queue (R48, R61, R67, R79) -/

/-- R61: the state a trip takes from its two sets. -/
def settled (t : Trip) : Trip :=
  match t.state with
  | .pending => if t.held = t.required then { t with state := .ready } else t
  | .ready => if t.held = t.required then t else { t with state := .pending }
  | .active => t
  | .suspended => t

/-- The time after which the trip's age exceeds PENDING_LIMIT (R67). -/
def pendingDeadline (s : State) (t : Trip) : Nat :=
  t.requestedAt + (cfg s).params.pendingLimit.toNat * 1000

/-- R67: the trip's age exceeds PENDING_LIMIT. -/
def pastDeadline (s : State) (t : Trip) : Bool := pendingDeadline s t < s.now

/-- What a claim does to one trip. -/
inductive Change
  | keep
  | set (cause : TripCause) (t : Trip)
  | drop (outcome : TripEnd) (t : Trip)
  deriving DecidableEq, Repr

/-- R61 and R67: a trip whose sets a claim has changed; a READY trip that falls back after its deadline is
removed EXPIRED by the same claim. -/
def regrade (s : State) (cause : TripCause) (old new : Trip) : Change :=
  if old.state = .ready ∧ (settled new).state = .pending ∧ pastDeadline s new then
    .drop .expired (settled new)
  else .set cause (settled new)

/-- The record a change leaves in the queue, if any. -/
def changedTrip (t : Trip) : Change → Option Trip
  | .keep => some t
  | .set _ t' => some t'
  | .drop _ _ => none

/-- The TRIP notice of a change (R79). -/
def changeNotice : Change → Option Notice
  | .keep => none
  | .set cause t => some (.trip cause t none)
  | .drop outcome t => some (.trip .removed t (some outcome))

/-- The change removes a SEARCH trip of the drum. -/
def dropsSearch (d : Drum) (t : Trip) : Change → Bool
  | .keep => false
  | .set _ _ => false
  | .drop _ _ => decide (t.kind = .search) && decide (convDrum t.conv = d)

/-- R48, R79, R106: one claim, changing each trip of the queue by `f`; the notices stand in queue order,
and the search record of a removed SEARCH trip is discarded. -/
def claim (f : Trip → Change) (s : State) : State :=
  notifyAll (s.tqm.trips.filterMap (fun t => changeNotice (f t)))
    ((s.onTqm (fun q => { q with trips := q.trips.filterMap (fun t => changedTrip t (f t)) })).onMsq
      (fun m => { m with
        search1 := if s.tqm.trips.any (fun t => dropsSearch .d1 t (f t)) then none else m.search1
        search2 := if s.tqm.trips.any (fun t => dropsSearch .d2 t (f t)) then none else m.search2 }))

/-- The trip with an id, or none. -/
def tripById (s : State) (id : Nat) : Option Trip := s.tqm.trips.find? (fun t => decide (t.id = id))

/-- The ACTIVE trip, or none. -/
def activeTrip (s : State) : Option Trip :=
  s.tqm.trips.find? (fun t => decide (t.state = .active))

/-- The SUSPENDED trip, or none. -/
def suspendedTrip (s : State) : Option Trip :=
  s.tqm.trips.find? (fun t => decide (t.state = .suspended))

/-- The MSQ's current trip, or none. -/
def currentTrip (s : State) : Option Trip :=
  match s.msq.current with
  | none => none
  | some id => tripById s id

/-- A trip changes its state, with a notice of the given cause. -/
def moveTrip (id : Nat) (state : TripState) (cause : TripCause) (s : State) : State :=
  claim (fun t => if t.id = id then .set cause { t with state := state } else .keep) s

/-- R77: a trip is removed with an outcome. -/
def removeTrip (id : Nat) (outcome : TripEnd) (s : State) : State :=
  claim (fun t => if t.id = id then .drop outcome t else .keep) s

/-! ## Origin status (R54, R55, R62) -/

/-- The origin status of a conveyance written. -/
def setOrigin (conv : Conveyance) (o : OriginStatus) (s : State) : State :=
  s.onTqm (fun q => match conv with
    | .cage => { q with originCage := o }
    | .skip => { q with originSkip := o }
    | .counterweight => q)

/-- R62: ORIGIN is revoked from every waiting trip of the conveyance that holds it. -/
def revokeOrigin (conv : Conveyance) (s : State) : State :=
  claim (fun t =>
    if waiting t && decide (t.conv = conv) && t.held.origin then
      regrade s .revoked t { t with held := { t.held with origin := false } }
    else .keep) s

/-- R54 and R62: standstill left, or the conveyance become UNKNOWN. -/
def originLost (conv : Conveyance) (s : State) : State :=
  match conv with
  | .counterweight => s
  | .cage => revokeOrigin .cage (setOrigin .cage .unset s)
  | .skip => revokeOrigin .skip (setOrigin .skip .unset s)

/-- R55: ORIGIN is added by waiver to every waiting trip of the conveyance that requires and lacks it. -/
def waiveOrigin (conv : Conveyance) (s : State) : State :=
  claim (fun t =>
    if waiting t && decide (t.conv = conv) && t.required.origin && !t.held.origin then
      regrade s .confirmed t { t with held := { t.held with origin := true } }
    else .keep) s

/-- R54: the status the current-level lookup gives a conveyance at rest. -/
def originHere (s : State) (conv : Conveyance) : OriginStatus :=
  if isUnknown s conv || !hasDepth s then .unset
  else match currentLevel (cfg s) conv (depthOf s conv) with
    | some n => .atLevel n
    | none => .outside

/-- R54, R55: standstill reached for the drum of a conveyance. -/
def originFound (conv : Conveyance) (s : State) : State :=
  let o := originHere s conv
  let s := setOrigin conv o s
  match o with
  | .outside => waiveOrigin conv s
  | .atLevel _ => s
  | .unset => s

/-! ## Stations and the queue (R59, R63 to R65, R69) -/

/-- R63: the gates of a station opened; ORIGIN given by it is revoked. -/
def gatesOpened (n : Nat) (s : State) : State :=
  claim (fun t =>
    if waiting t && t.held.origin && decide (originSource s t.conv = some n) then
      regrade s .revoked t { t with held := { t.held with origin := false } }
    else .keep) s

/-- R64: the held set of a trip after the loss of station `n`. -/
def heldAfterLoss (s : State) (n : Nat) (t : Trip) : Confs where
  origin := t.held.origin && !decide (originSource s t.conv = some n)
  dest := t.held.dest && !decide (destSource s t = some n)
  console := t.held.console
  panel := t.held.panel && !decide (panelStation (cfg s) = some n)

/-- R64, R65: what the loss of station `n` does to one trip, revocation first and disposal second. -/
def lossChange (s : State) (n : Nat) (t : Trip) : Change :=
  if waiting t then
    let bare := { t with held := heldAfterLoss s n t }
    let revoked := if bare.held = t.held then .keep else regrade s .revoked t bare
    match revoked with
    | .drop outcome t' => .drop outcome t'
    | .keep => disposal bare .keep
    | .set cause t' => disposal bare (.set cause t')
  else .keep
where
  disposal (bare : Trip) (otherwise : Change) : Change :=
    if t.requester = n ∧ n ≠ 0 then
      if (cfg s).params.stationLossDisposal = 0 then .drop (.withdrawn .requesterLost) (settled bare)
      else if t.orphaned then otherwise
      else regrade s .orphaned t
        { bare with orphaned := true, required := { bare.required with console := true } }
    else otherwise

/-- R64: the TQM takes the loss of a station as one claim. -/
def stationLoss (n : Nat) (s : State) : State := claim (lossChange s n) s

/-- R59: the confirmations a READY from station `n` gives a trip. -/
def heldAfterReady (s : State) (n : Nat) (t : Trip) : Confs where
  origin := t.held.origin || (t.required.origin && decide (originSource s t.conv = some n))
  dest := t.held.dest || (t.required.dest && decide (destSource s t = some n))
  console := t.held.console
  panel := t.held.panel || (t.required.panel && decide (panelStation (cfg s) = some n))

/-- The trip gains a confirmation from the READY. -/
def readyGains (s : State) (n : Nat) (t : Trip) : Bool :=
  waiting t && !decide (heldAfterReady s n t = t.held)

/-- R59: the READY taken. -/
def takeReady (n : Nat) (s : State) : State :=
  claim (fun t =>
    if readyGains s n t then regrade s .confirmed t { t with held := heldAfterReady s n t }
    else .keep) s

/-! ## Admission (R50, R56 to R58) -/

/-- R50: the first id after `last`, wrapping from 255 to 1, that belongs to no trip in the queue; found
within `tries` tries. -/
def freeIdAfter (used : List Nat) : Nat → Nat → Nat
  | 0, last => last
  | tries + 1, last =>
    let next := if last ≥ 255 then 1 else last + 1
    if next ∈ used then freeIdAfter used tries next else next

/-- R50: the id the allocator assigns next. -/
def nextTripId (q : Tqm) : Nat := freeIdAfter (q.trips.map (fun t => t.id)) 17 q.lastId

/-- R57, check 3: the requester is permitted; requester 0 carries no mask. -/
def permitted (mask : Option Mask) (conv kind : Nat) : Bool :=
  match mask with
  | none => true
  | some m =>
    m.call &&
      (match convOf conv with | some c => maskHasConv m c | none => false) &&
      (match kindOf kind with | some k => maskHasKind m k | none => false)

/-- R57, check 4: the conveyance and kind named, if the kind suits the conveyance. -/
def suited (conv kind : Nat) : Option (Conveyance × Kind) :=
  match convOf conv, kindOf kind with
  | some c, some k => if kindSuits k c then some (c, k) else none
  | _, _ => none

/-- R57, check 6: a trip in the queue names the same conveyance and destination. -/
def duplicateTrip (q : Tqm) (conv : Conveyance) (dest : Nat) : Bool :=
  q.trips.any (fun t => decide (t.conv = conv) && decide (t.dest = some dest))

/-- R57, check 8: the derived counterweight depth of the destination of a CAGE trip is beyond the
counterweight's travel limits. -/
def counterweightBeyond (c : Configuration) (conv : Conveyance) (dest : Nat) : Bool :=
  decide (conv = .cage) &&
    (match stopDepth c .counterweight dest with
      | some d => beyondLimit c .counterweight d
      | none => false)

/-- R57: the first failing check of an admission, or the conveyance, kind and destination admitted. The
conveyance and kind are codes as received, a missing destination is none. -/
def admission (s : State) (mask : Option Mask) (conv kind : Nat) (dest : Option Nat) :
    Result ⊕ (Conveyance × Kind × Nat) :=
  if inCommission s then .inl .wrongState
  else if s.tqm.trips.length ≥ 16 then .inl .queueFull
  else if !permitted mask conv kind then .inl .notPermitted
  else match suited conv kind with
    | none => .inl .outOfRange
    | some (c, k) =>
      match dest with
      | none => .inl .noSuchLevel
      | some level =>
        if level > 39 then .inl .outOfRange
        else if !levelServes (cfg s) c level then .inl .noSuchLevel
        else if duplicateTrip s.tqm c level then .inl .duplicate
        else if isUnknown s c then .inl .notPlaced
        else if counterweightBeyond (cfg s) c level then .inl .outOfRange
        else .inr (c, k, level)

/-- R58: the record of an admitted trip. -/
def admittedTrip (s : State) (requester : Nat) (conv : Conveyance) (kind : Kind) (dest : Nat) : Trip :=
  let required := requiredFor kind
  settled {
    id := nextTripId s.tqm
    kind := kind
    conv := conv
    dest := some dest
    requester := requester
    required := required
    held := { noConfs with
      origin := required.origin && decide (originOf s.tqm conv = .outside) }
    state := .pending
    requestedAt := s.now
    orphaned := false
    step := 0 }

/-- A trip joins the tail of the queue with its id recorded as the last assigned, and its ADMITTED
notice. -/
def joinQueue (t : Trip) (s : State) : State :=
  notify (.trip .admitted t none)
    (s.onTqm (fun q => { q with trips := q.trips ++ [t], lastId := t.id }))

/-! ## START (R72, R73) -/

/-- R72: the trip may become ACTIVE. -/
def mayRun (s : State) (t : Trip) : Bool :=
  decide (t.kind = .search) ||
    (!isUnknown s t.conv && (decide (t.conv ≠ .cage) || !isUnknown s .counterweight))

/-- R73: the trip START takes when no id is named and no trip is SUSPENDED. -/
def arbitrate (s : State) : Option Trip :=
  let fit := s.tqm.trips.filter (fun t => decide (t.state = .ready) && mayRun s t)
  match fit.find? (fun t => decide (t.kind = .personnel)) with
  | some t => some t
  | none => fit.head?

end Sys2Proof.Machine
end

