-- ==== Sys2Proof/Machine/Ceiling.lean ====
section
/-! DEFINITION. The Motion Sequencer's winder state with its WINDER notices (R107), the distance to go
(R111), search records (R106), and the effective ceiling: its terms, its target, bringing it to the
target, and its CEILING notices (R122 to R125). -/

namespace Sys2Proof.Machine

/-! ## The run -/

/-- The drum of a trip (R49). -/
def tripDrum (t : Trip) : Drum := convDrum t.conv

/-- The winder is RUNNING or STOPPING. -/
def inMotion (w : Winder) : Bool :=
  match w with
  | .running _ => true
  | .stopping _ => true
  | .commission => false
  | .parked => false
  | .changeover => false
  | .halted => false
  | .tripped => false

/-- R107: the WINDER notice of a change made from winder state `before`, with the current trip and, for a
SEARCH trip, its step. -/
def winderNotice (cause : WinderCause) (before : Winder) (s : State) : State :=
  notify (.winder cause before s.msq.winder (s.msq.current.getD 0)
    ((currentTrip s).elim 0 (fun t => t.step))) s

/-- R106, R107: the winder state is written and its notice queued. -/
def setWinder (w : Winder) (cause : WinderCause) (s : State) : State :=
  winderNotice cause s.msq.winder (s.onMsq (fun m => { m with winder := w }))

/-- The current trip written. -/
def setCurrent (id : Option Nat) (s : State) : State := s.onMsq (fun m => { m with current := id })

/-- The phase timer written. -/
def setTimer (t : Option PhaseTimer) (s : State) : State :=
  s.onMsq (fun m => { m with phaseTimer := t })

/-- The settle outcome written. -/
def setSettle (e : Option SettleEnd) (s : State) : State := s.onMsq (fun m => { m with settle := e })

/-- The excess start cleared. -/
def clearExcess (s : State) : State := s.onMsq (fun m => { m with excessStart := none })

/-- BRAKE_SET_DELAY starts. -/
def startBrakeDelay (s : State) : State :=
  setTimer (some (.brakeSet (s.now + (cfg s).params.brakeSetDelay.toNat))) s

/-! ## Search records (R106) -/

/-- The search record of a drum. -/
def searchOf (s : State) : Drum → Option SearchRec
  | .d1 => s.msq.search1
  | .d2 => s.msq.search2

/-- The search record of a drum written. -/
def setSearch (d : Drum) (r : Option SearchRec) (s : State) : State :=
  s.onMsq (fun m => match d with
    | .d1 => { m with search1 := r }
    | .d2 => { m with search2 := r })

/-- The search record of a drum changed, if there is one. -/
def onSearch (d : Drum) (f : SearchRec → SearchRec) (s : State) : State :=
  setSearch d ((searchOf s d).map f) s

/-- R43: the window of a search step, in cm. -/
def stepWindow (step : Nat) : Int :=
  match step with
  | 0 => 0
  | 1 => 400
  | 2 => 1600
  | 3 => 6400
  | _ => 25600

/-- The direction opposite to a direction. -/
def opposite : Dir → Dir
  | .down => .up
  | .up => .down

/-- R122: the hold is present, the step being exhausted or the mark found. -/
def searchHold (s : State) (d : Drum) : Bool :=
  match searchOf s d with
  | none => false
  | some r => r.exhausted || r.found

/-! ## The distance to go (R111) -/

/-- The destination stop depth of a trip (R3). -/
def tripStop (s : State) (t : Trip) : Option Int :=
  match t.dest with
  | none => none
  | some level => stopDepth (cfg s) t.conv level

/-- R111: the distance to go of a trip with a destination, in the trip direction. -/
def distanceToGo (s : State) (t : Trip) : Option Int :=
  match tripStop s t, s.msq.direction with
  | some stop, some .down => some (stop - depthOf s t.conv)
  | some stop, some .up => some (depthOf s t.conv - stop)
  | some _, none => none
  | none, _ => none

/-- The distance to go lies within STOP_WINDOW of zero, in either direction of travel (R112, R119). -/
def withinWindow (s : State) (t : Trip) : Bool :=
  match tripStop s t with
  | none => false
  | some stop => decide ((distance stop (depthOf s t.conv) : Int) ≤ (cfg s).params.stopWindow)

/-- R111: the direction a trip takes at an entry into PROVING. -/
def runDirection (s : State) (t : Trip) : Option Dir :=
  match t.kind with
  | .search => (searchOf s (tripDrum t)).map (fun r => r.dir)
  | .personnel => towardStop
  | .material => towardStop
  | .rock => towardStop
  | .inspect => towardStop
where
  towardStop : Option Dir :=
    (tripStop s t).map (fun stop => if stop ≥ depthOf s t.conv then .down else .up)

/-! ## The target (R122) -/

/-- The first of the lowest terms of a non-empty list that starts with `best`. -/
def lowestTerm (best : Nat × Source) : List (Nat × Source) → Nat × Source
  | [] => best
  | t :: rest => if t.1 < best.1 then lowestTerm t rest else lowestTerm best rest

/-- The zone term (R7), with the number of the governing zone. -/
def zoneTerm (s : State) (t : Trip) : List (Nat × Source) :=
  ((drumZoneCeiling (cfg s) (tripDrum t) (depthOf s)).map (fun z => (z.2, Source.zone z.1))).toList

/-- The retard term (R9), for the trip's distance to go. -/
def retardTerm (s : State) (t : Trip) : List (Nat × Source) :=
  match distanceToGo s t with
  | none => []
  | some d => (retardCeiling (cfg s) (tripDrum t) d).toList

/-- The creep term (R124). -/
def creepTerm (s : State) : List (Nat × Source) :=
  if s.msq.creepClamp then [((cfg s).params.creepSpeed.toNat, .creep)] else []

/-- R122, R125: the lowest term in phase MOVING and its source, BASE, ZONE, RETARD, RETARD_PAST, CREEP
and HOLD being tried in that order. -/
def movingTarget (s : State) (t : Trip) : Nat × Source :=
  lowestTerm (baseSpeed (cfg s).params t.kind, .base)
    (if t.kind = .search then
      creepTerm s ++ (if searchHold s (tripDrum t) then [(0, .hold)] else [])
    else zoneTerm s t ++ retardTerm s t ++ creepTerm s)

/-- R122: the target and the source that governs once no ramp runs, or none where there is no target. -/
def targetNow (s : State) : Option (Nat × Source) :=
  match s.msq.winder with
  | .running .moving => (currentTrip s).map (movingTarget s)
  | .running .proving => none
  | .running .settling => none
  | .stopping .decelerating => some (0, .stop)
  | .stopping .setting => none
  | .commission => none
  | .parked => none
  | .changeover => none
  | .halted => none
  | .tripped => none

/-! ## The effective ceiling (R123 to R125) -/

/-- R123, case 2: the value of a ramp at a time, rounded toward zero. -/
def rampValue (p : Params) (r : Ramp) (now : Nat) : Int :=
  ((r.start : Int) * 1000 - p.controlledDecel * ((now : Int) - (r.startedAt : Int))).tdiv 1000

/-- R123: the ceiling brought to a target, the cases in order. -/
def broughtTo (p : Params) (now : Nat) (target : Nat × Source) (c : Ceiling) : Ceiling :=
  if target.1 ≥ c.value then ⟨target.1, target.2, some target.1, none⟩
  else match c.ramp with
    | some r =>
      let v := max (rampValue p r now).toNat target.1
      if v = target.1 then ⟨v, target.2, some target.1, none⟩
      else ⟨v, .ramp, some target.1, some { r with target := target.1 }⟩
    | none => ⟨c.value, .ramp, some target.1, some ⟨c.value, now, target.1⟩⟩

/-- R125: the change calls for a CEILING notice: another source, or another target of a running ramp. -/
def ceilingReported (old new : Ceiling) : Bool :=
  !decide (old.source = new.source) ||
    (match old.ramp, new.ramp with
      | some a, some b => !decide (a.target = b.target)
      | some _, none => false
      | none, _ => false)

/-- The effective ceiling written, with its notice (R125; notes/assumptions/9). -/
def setCeiling (c : Ceiling) (s : State) : State :=
  let moved := s.onMsq (fun m => { m with ceiling := c })
  if ceilingReported s.msq.ceiling c then
    notify (.ceiling c.value c.source c.ramp (cfg s).params.controlledDecel.toNat) moved
  else moved

/-- R123: the effective ceiling brought to the present target, where there is one. -/
def bringToTarget (s : State) : State :=
  match targetNow s with
  | none => s
  | some target => setCeiling (broughtTo (cfg s).params s.now target s.msq.ceiling) s

/-- R124: the creep clamp written; in MOVING the ceiling follows at once. -/
def setClamp (on : Bool) (s : State) : State :=
  let s := s.onMsq (fun m => { m with creepClamp := on })
  match s.msq.winder with
  | .running .moving => bringToTarget s
  | .running .proving => s
  | .running .settling => s
  | .stopping _ => s
  | .commission => s
  | .parked => s
  | .changeover => s
  | .halted => s
  | .tripped => s

end Sys2Proof.Machine
end

