-- ==== Sys2Proof/Machine/Edits.lean ====
section
/-! DEFINITION. The Profile Unit's service edits: items, existence, classification (R13, R14), writing an
edit into the configuration in force (R15), and applying the staged buffer at PARKED (R19). -/

namespace Sys2Proof.Machine

/-- The configuration in force changed. -/
def onInForce (f : Configuration → Configuration) (s : State) : State :=
  s.onCfs (fun c => { c with inForce := c.inForce.map f })

/-- The staged buffer written. -/
def setStaged (es : List Edit) (s : State) : State := s.onPfu (fun _ => ⟨es⟩)

/-! ## Items (section 1.8, R14) -/

/-- Two edits name the same item: one edit type together with one index. -/
def sameItem : Edit → Edit → Bool
  | .zoneCeiling a _, .zoneCeiling b _ => a = b
  | .zoneEnable a _, .zoneEnable b _ => a = b
  | .levelEnable a _, .levelEnable b _ => a = b
  | .stationMask a _, .stationMask b _ => a = b
  | .zoneCeiling _ _, .zoneEnable _ _ => false
  | .zoneCeiling _ _, .levelEnable _ _ => false
  | .zoneCeiling _ _, .stationMask _ _ => false
  | .zoneEnable _ _, .zoneCeiling _ _ => false
  | .zoneEnable _ _, .levelEnable _ _ => false
  | .zoneEnable _ _, .stationMask _ _ => false
  | .levelEnable _ _, .zoneCeiling _ _ => false
  | .levelEnable _ _, .zoneEnable _ _ => false
  | .levelEnable _ _, .stationMask _ _ => false
  | .stationMask _ _, .zoneCeiling _ _ => false
  | .stationMask _ _, .zoneEnable _ _ => false
  | .stationMask _ _, .levelEnable _ _ => false

/-- R14: the edit is tightening against the value of its item in a configuration. -/
def tightening (c : Configuration) : Edit → Bool
  | .zoneCeiling z v =>
    match tableGet z c.zones with
    | none => false
    | some e => decide (v < e.ceiling)
  | .zoneEnable _ on => on
  | .levelEnable _ on => !on
  | .stationMask n m =>
    match tableGet n c.stations with
    | none => false
    | some e => maskWithin m e.mask

/-- R13, check 4: the refusal of an edit whose item does not exist, or none. -/
def itemMissing (c : Configuration) : Edit → Option Result
  | .zoneCeiling z _ => if (tableGet z c.zones).isNone then some .outOfRange else none
  | .zoneEnable z _ => if (tableGet z c.zones).isNone then some .outOfRange else none
  | .levelEnable l _ => if (tableGet l c.levels).isNone then some .noSuchLevel else none
  | .stationMask n _ => if (tableGet n c.stations).isNone then some .outOfRange else none

/-! ## Taking effect (R15, R19) -/

/-- The item of a key changed in a table; an absent key stays absent. -/
def tableUpdate {α : Type} (k : Nat) (f : α → α) (t : Table α) : Table α :=
  t.map (fun p => if p.1 = k then (p.1, f p.2) else p)

/-- The value of an edit written into a configuration. -/
def writeEdit (c : Configuration) : Edit → Configuration
  | .zoneCeiling z v => { c with zones := tableUpdate z (fun e => { e with ceiling := v }) c.zones }
  | .zoneEnable z on => { c with zones := tableUpdate z (fun e => { e with enabled := on }) c.zones }
  | .levelEnable l on => { c with levels := tableUpdate l (fun e => { e with enabled := on }) c.levels }
  | .stationMask n m => { c with stations := tableUpdate n (fun e => { e with mask := m }) c.stations }

/-- R15: an edit takes effect in the profile in force. -/
def putInForce (e : Edit) (s : State) : State := onInForce (fun c => writeEdit c e) s

/-- R19: at an entry into PARKED the staged edits are applied in buffer order, the buffer is emptied and
one EDIT notice is queued; an empty buffer does nothing. -/
def applyStaged (s : State) : State :=
  if s.pfu.staged.isEmpty then s
  else notify (.edit .parked s.pfu.staged none)
    (setStaged [] (onInForce (fun c => s.pfu.staged.foldl writeEdit c) s))

/-- The winder enters PARKED with its notice, the effective ceiling 0 with source NONE (R122). -/
def enterParked (cause : WinderCause) (s : State) : State :=
  setCeiling Ceiling.idle (setWinder .parked cause s)

end Sys2Proof.Machine
end

