-- ==== Sys2Proof/Machine/Flags.lean ====
section
/-! DEFINITION. The Protection Unit's flags: presence records (R152), the active fault list with its
FAULT notices (R161, R170), gone reports and removals (R164 to R166), and what a removal calls for
(R159, R160, R169). -/

namespace Sys2Proof.Machine

/-! ## Presence records and table rows -/

/-- The presence record of a protection. -/
def presence (s : State) (p : Protection) : SubjectSet := s.prt.presence[protIdx p]

/-- The presence record of a protection written. -/
def setPresence (p : Protection) (m : SubjectSet) (s : State) : State :=
  s.onPrt (fun x => { x with presence := x.presence.set (protIdx p) m })

/-- The condition is present for the subject. -/
def isPresent (s : State) (p : Protection) (n : Nat) : Bool := setHas (presence s p) n

/-- The row of a protection in a configuration's table. -/
def protRow (c : Configuration) (p : Protection) : ProtRow := c.protections[protIdx p]

/-- The row of a protection in a configuration's table written. -/
def setProtRow (p : Protection) (r : ProtRow) (c : Configuration) : Configuration :=
  { c with protections := c.protections.set (protIdx p) r }

/-- The action of a protection in force; MARK_MISSED is treated as OFF where R156 says so. -/
def actionInForce (s : State) (p : Protection) : Action :=
  if s.prt.missedOff && decide (p = .markMissed) then .off else (protRow (cfg s) p).action

/-- R152: the condition is momentary. -/
def momentary (p : Protection) : Bool :=
  match p with
  | .markSlip => true
  | .brakeFade => true
  | .heldDrumMove => true
  | .clutchTimeout => true
  | .stopOverrun => true
  | .reconcileFail => true
  | .encoderFault => true
  | .overspeed => false
  | .overwind => false
  | .ultimateLimit => false
  | .slackRope => false
  | .markMissed => false
  | .linkMismatch => false
  | .clutchMismatch => false
  | .stationLost => false
  | .stationHold => false
  | .pathGate => false

/-! ## The active fault list -/

/-- The entry of a protection, or none. -/
def entryOf (s : State) (p : Protection) : Option FaultEntry :=
  s.prt.entries.find? (fun e => decide (e.prot = p))

/-- The list holds an entry with the action. -/
def holdsAction (a : Action) (es : List FaultEntry) : Bool := es.any (fun e => decide (e.action = a))

/-- The list written. -/
def setEntries (es : List FaultEntry) (s : State) : State :=
  s.onPrt (fun x => { x with entries := es })

/-- The entry of a protection replaced in its place. -/
def replaceEntry (e : FaultEntry) (es : List FaultEntry) : List FaultEntry :=
  es.map (fun x => if x.prot = e.prot then e else x)

/-- The list without the entry of a protection. -/
def withoutEntry (p : Protection) (es : List FaultEntry) : List FaultEntry :=
  es.filter (fun x => !decide (x.prot = p))

/-- R170: a FAULT notice with the number of entries as the list now stands. -/
def faultNotice (cause : FaultCause) (reason : Option RemovalReason) (e : FaultEntry) (subject : Nat)
    (firstOut : Bool) (s : State) : State :=
  notify (.fault cause reason e subject s.prt.entries.length firstOut) s

/-- An entry changed in its place, with its notice. -/
def changeEntry (cause : FaultCause) (e : FaultEntry) (subject : Nat) (s : State) : State :=
  faultNotice cause none e subject false (setEntries (replaceEntry e s.prt.entries) s)

/-- R166: the retry deadline of an entry that becomes HELD now; only RETRY has one. -/
def retryDeadline (now : Nat) (e : FaultEntry) : Option Nat :=
  match e.recovery with
  | .retry => some (now + e.retryTime * 1000)
  | .latched => none
  | .self => none

/-! ## What a removal calls for (R159, R160, R169) -/

/-- R134, R160, R120: the list holds no EMERGENCY entry any more. The emergency block is cleared, and a
TRIPPED winder passes to PARKED, where the staged edits are applied. -/
def endEmergency (s : State) : State :=
  let s := s.onCpl (fun c => { c with block := false })
  match s.msq.winder with
  | .tripped => applyStaged (enterParked .cleared s)
  | .commission => s
  | .parked => s
  | .changeover => s
  | .running _ => s
  | .stopping _ => s
  | .halted => s

/-- The reports that a change of the list calls for, in the order of R167: clamp off, the end of the last
EMERGENCY, the clearing of the first-out record. -/
def settleList (before : List FaultEntry) (s : State) : State :=
  let s := if holdsAction .creep before && !holdsAction .creep s.prt.entries then setClamp false s else s
  let s := if holdsAction .emergency before && !holdsAction .emergency s.prt.entries then
    endEmergency s else s
  if s.prt.entries.isEmpty then s.onPrt (fun x => { x with firstOut := none }) else s

/-- An entry leaves the list with its FAULT notice; the reports it calls for are left to the caller. -/
def takeOut (reason : RemovalReason) (e : FaultEntry) (subject : Nat) (s : State) : State :=
  faultNotice .removed (some reason) { e with deadline := none } subject false
    (setEntries (withoutEntry e.prot s.prt.entries) s)

/-- An entry leaves the list, with its notice and then the reports it calls for. -/
def removeEntry (reason : RemovalReason) (e : FaultEntry) (subject : Nat) (s : State) : State :=
  settleList s.prt.entries (takeOut reason e subject s)

/-! ## Gone reports (R164, R165) -/

/-- What a gone report for a subject does to the entry of its protection, the presence record being
written already. -/
def goneFromEntry (e : FaultEntry) (n : Nat) (s : State) : State :=
  match e.recovery with
  | .self =>
    let e := { e with subjects := setErase n e.subjects }
    if e.subjects = 0 then removeEntry .self e n s else changeEntry .subjectGone e n s
  | .latched => hold
  | .retry => hold
where
  hold : State :=
    if e.isHeld || !decide (e.subjects &&& presence s e.prot = 0) then s
    else changeEntry .held { e with isHeld := true, deadline := retryDeadline s.now e } n s

/-- R152: a condition is reported gone for a subject. -/
def gone (p : Protection) (n : Nat) (s : State) : State :=
  if isPresent s p n then
    let s := setPresence p (setErase n (presence s p)) s
    match entryOf s p with
    | none => s
    | some e => goneFromEntry e n s
  else s

/-- A condition is reported gone for every subject of its presence record, in ascending number. -/
def goneAll (p : Protection) (s : State) : State :=
  (setMembers (presence s p)).foldl (fun st n => gone p n st) s

/-- R127: the winder has left RUNNING and STOPPING, so the excess start is cleared and a present
OVERSPEED is reported gone. -/
def leaveMotion (s : State) : State := goneAll .overspeed (clearExcess s)

end Sys2Proof.Machine
end

