-- ==== Sys2Proof/Machine/Coupling.lean ====
section
/-! DEFINITION. The Coupling Controller's lines, emergency block, clutches and brake watches (R132 to
R148), but for the completion of a changeover, which the Motion Sequencer takes (Machine/Actions). -/

namespace Sys2Proof.Machine

/-! ## Lines and watches by drum -/

/-- The brake release permit of a drum is asserted. -/
def permitOf (s : State) : Drum → Bool
  | .d1 => s.cpl.brk1
  | .d2 => s.cpl.brk2

/-- The permit line of a drum written. -/
def setPermit (d : Drum) (on : Bool) (s : State) : State :=
  s.onCpl (fun c => match d with
    | .d1 => { c with brk1 := on }
    | .d2 => { c with brk2 := on })

/-- The brake watch of a drum. -/
def watchOf (s : State) : Drum → Watch
  | .d1 => s.cpl.watch1
  | .d2 => s.cpl.watch2

/-- The brake watch of a drum written. -/
def setWatch (d : Drum) (w : Watch) (s : State) : State :=
  s.onCpl (fun c => match d with
    | .d1 => { c with watch1 := w }
    | .d2 => { c with watch2 := w })

/-- The clutch of a drum. -/
def clutchOf (s : State) : Drum → Clutch
  | .d1 => s.cpl.clutch1
  | .d2 => s.cpl.clutch2

/-- The clutch of a drum changed. -/
def onClutch (d : Drum) (f : Clutch → Clutch) (s : State) : State :=
  s.onCpl (fun c => match d with
    | .d1 => { c with clutch1 := f c.clutch1 }
    | .d2 => { c with clutch2 := f c.clutch2 })

/-- The command line of a movement of a drum's clutch written. -/
def setCommand (d : Drum) (m : Movement) (on : Bool) (s : State) : State :=
  s.onCpl (fun c => match d, m with
    | .d1, .engage => { c with eng1 := on }
    | .d1, .release => { c with dis1 := on }
    | .d2, .engage => { c with eng2 := on }
    | .d2, .release => { c with dis2 := on })

/-! ## Brake watches (R144 to R147) -/

/-- R146: the watch of a drum enters HELD at the present count. -/
def holdWatch (d : Drum) (s : State) : State := setWatch d (.held (drumTrack s d).count 0) s

/-- R144, R146, R148: the watch that begins when a permit passes from asserted to withdrawn; none begins
while no configuration is in force. -/
def beginWatch (d : Drum) (s : State) : State :=
  if !hasDepth s then s
  else if atStandstill s d then holdWatch d s
  else setWatch d (.fade ((drumTrack s d).speed.natAbs)
    (s.now + (cfg s).params.brakeStopTime.toNat * 1000)) s

/-- R145, R146: standstill reached for a drum whose permit is withdrawn and whose watch is NONE or
FADE. -/
def watchStandstill (d : Drum) (s : State) : State :=
  if permitOf s d then s
  else match watchOf s d with
    | .held _ _ => s
    | .none => holdWatch d s
    | .fade _ _ => holdWatch d s

/-- R147: the held movement of a drum, in cm. -/
def heldMovement (s : State) (d : Drum) (refCount : Int) : Int :=
  ((((drumTrack s d).count - refCount).natAbs : Int) * 1000).tdiv (scaleOf (cfg s).params d)

/-! ## Requests for DRV and the permits (R135) -/

/-- R134, R135: DRV is asserted unless the emergency block is set. -/
def assertDrv (s : State) : State :=
  if s.cpl.block then s else s.onCpl (fun c => { c with drv := true })

/-- R135: DRV is withdrawn. -/
def withdrawDrv (s : State) : State := s.onCpl (fun c => { c with drv := false })

/-- R134, R135: a permit is asserted, and the drum's watch ends, unless the emergency block is set or the
line is asserted already. -/
def assertPermit (d : Drum) (s : State) : State :=
  if s.cpl.block || permitOf s d then s else setWatch d .none (setPermit d true s)

/-- R135: a permit is withdrawn, and the drum's watch begins if the permit was asserted. -/
def withdrawPermit (d : Drum) (s : State) : State :=
  if permitOf s d then beginWatch d (setPermit d false s) else s

/-! ## Clutches (R137, R141 to R143) -/

/-- R142: the clutch state contradicts the reading. -/
def contradicts (c : Clutch) : Bool :=
  match c.state with
  | .engaged => !decide (c.reading = .atEngaged)
  | .free => !decide (c.reading = .atFree)
  | .engaging => false
  | .releasing => false
  | .unsure => false

/-- R139, R140, R141: the movement under way on a clutch ends with its command line released and its
timer cancelled; the clutch state becomes `state`. -/
def endMovement (d : Drum) (m : Movement) (state : ClutchState) (s : State) : State :=
  onClutch d (fun c => { c with state := state, timer := none }) (setCommand d m false s)

/-- The drum whose clutch a movement of a changeover moves (R138). -/
def movedDrum (target : Drum) : Movement → Drum
  | .release => otherDrum target
  | .engage => target

/-- The changeover in progress written. -/
def setChangeover (c : Option Changeover) (s : State) : State :=
  s.onCpl (fun x => { x with changeover := c })

/-- R141: the clutch commands are released and the changeover is discarded. -/
def releaseCommands (s : State) : State :=
  match s.cpl.changeover with
  | none => s
  | some c =>
    match c.movement with
    | none => setChangeover none s
    | some m => setChangeover none (endMovement (movedDrum c.target m) m .unsure s)

/-- R139: a movement begins: its command is driven, the clutch state changes, its timer starts, and a
mismatch reported before is gone, the clutch being untested now (R143). -/
def startMovement (target : Drum) (m : Movement) (s : State) : State :=
  let d := movedDrum target m
  let timer := s.now + (cfg s).params.clutchTime.toNat * 1000
  let state : ClutchState := match m with
    | .release => .releasing
    | .engage => .engaging
  gone .clutchMismatch (drumNumber d)
    (onClutch d (fun c => { c with state := state, timer := some timer })
      (setCommand d m true (setChangeover (some ⟨target, some m⟩) s)))

/-! ## Withdraw-all (R133, R134) -/

/-- R133: BRK1, BRK2 and DRV are withdrawn, the clutch commands released, the emergency block set, and
the watch of each drum whose permit was asserted begins. -/
def withdrawAll (s : State) : State :=
  (releaseCommands (withdrawDrv (withdrawPermit .d2 (withdrawPermit .d1 s)))).onCpl
    (fun c => { c with block := true })

end Sys2Proof.Machine
end

