-- ==== Sys2Proof/Machine/Path.lean ====
section
/-! DEFINITION. The attended set (R86), the path set (R87), the station conditions (R99 to R101), and the
parts of a raise that do not depend on the action (R162, R163, R169). -/

namespace Sys2Proof.Machine

/-! ## Station entries -/

/-- The volatile entry of a station, or none where the number is not enrolled. -/
def stationOf (s : State) (n : Nat) : Option Station := tableGet n s.slc.stations

/-- The entry of a station changed. -/
def onStation (n : Nat) (f : Station → Station) (s : State) : State :=
  s.onSlc (fun x => { x with stations := tableUpdate n f x.stations })

/-- The enrolled station numbers, ascending. -/
def enrolled (s : State) : List Nat := s.slc.stations.map (fun p => p.1)

/-- R85: the permission mask of a station in force. -/
def maskOf (s : State) (n : Nat) : Option Mask := (tableGet n (cfg s).stations).map (fun e => e.mask)

/-! ## The attended set (R86) -/

/-- The stations that are present sources of a confirmation in `need` of a trip. -/
def sourcesOf (s : State) (need : Confs) (t : Trip) : List Nat :=
  (if need.origin then (originSource s t.conv).toList else []) ++
  (if need.dest then (destSource s t).toList else []) ++
  (if need.panel then (panelStation (cfg s)).toList else [])

/-- R81, R86: the trip attends its sources: READY, ACTIVE or SUSPENDED. -/
def attends (t : Trip) : Bool :=
  match t.state with
  | .pending => false
  | .ready => true
  | .active => true
  | .suspended => true

/-- R86: the attended set as it now stands. -/
def attended (s : State) : SubjectSet :=
  setOf ((s.tqm.trips.filter attends).flatMap (fun t => sourcesOf s (requiredFor t.kind) t)) |||
    s.slc.path

/-! ## The path set (R87) -/

/-- The stop depth at which a station serves a conveyance, if it serves it and the level holds it. -/
def stationStop (c : Configuration) (e : StationEntry) (conv : Conveyance) : Option Int :=
  if roleConv e.role = some conv then
    match e.level with
    | none => none
    | some level => stopDepth c conv level
  else none

/-- R87: the span of depths whose stations are on the path of a trip, or none. -/
def pathSpan (s : State) (t : Trip) : Option (Int × Int) :=
  match t.kind with
  | .search => (searchOf s (tripDrum t)).map (fun r =>
      (r.assumed - stepWindow t.step, r.assumed + stepWindow t.step))
  | .personnel => toStop
  | .material => toStop
  | .rock => toStop
  | .inspect => toStop
where
  toStop : Option (Int × Int) :=
    (tripStop s t).map (fun stop =>
      (min stop (depthOf s t.conv), max stop (depthOf s t.conv)))

/-- The stop depth lies within a span. -/
def inSpan (span : Option (Int × Int)) (stop : Option Int) : Bool :=
  match span, stop with
  | some sp, some d => decide (sp.1 ≤ d) && decide (d ≤ sp.2)
  | some _, none => false
  | none, _ => false

/-- R87: the stations serving the trip's conveyance at the levels of its span. -/
def spanStations (s : State) (t : Trip) : List Nat :=
  ((cfg s).stations.filter (fun p => inSpan (pathSpan s t) (stationStop (cfg s) p.2 t.conv))).map
    (fun p => p.1)

/-- R87: the origin station of a trip entering ACTIVE. -/
def originStationAt (s : State) (t : Trip) : Option Nat := originSource s t.conv

/-- R87: the origin station as a recomputation leaves it: none once the conveyance lies more than
LEAVE_DISTANCE from its level's stop depth. -/
def originStationKept (s : State) (t : Trip) : Option Nat :=
  match s.slc.originStation with
  | none => none
  | some n =>
    match (tableGet n (cfg s).stations).bind (fun e => stationStop (cfg s) e t.conv) with
    | none => none
    | some stop =>
      if (distance stop (depthOf s t.conv) : Int) > (cfg s).params.leaveDistance then none else some n

/-- R87: the path set and the origin station recomputed. -/
def writePath (s : State) : State :=
  match activeTrip s with
  | none => s.onSlc (fun x => { x with path := 0, originStation := none })
  | some t =>
    let origin := originStationKept s t
    s.onSlc (fun x => { x with
      path := setOf (spanStations s t ++ origin.toList), originStation := origin })

/-! ## Station conditions (R99 to R101) -/

/-- R101: PATH_GATE holds for the station. -/
def pathGateHolds (s : State) (n : Nat) : Bool :=
  (activeTrip s).isSome && setHas s.slc.path n && (stationOf s n).any (fun e => e.gatesOpen)

/-- R100: STATION_HOLD holds for the station. -/
def stationHoldHolds (s : State) (n : Nat) : Bool := (stationOf s n).any (fun e => e.hold)

/-- The station is LOST. -/
def isLost (s : State) (n : Nat) : Bool := (stationOf s n).any (fun e => decide (e.link = .lost))

/-- R99: STATION_LOST holds for the station. -/
def stationLostHolds (s : State) (n : Nat) : Bool := isLost s n && setHas (attended s) n

/-- A condition reported present or gone by a test, `present` being what a present report does. -/
def reportTest (present : Protection → Nat → State → State) (p : Protection) (n : Nat) (holds : Bool)
    (s : State) : State :=
  if holds then present p n s else gone p n s

/-- R99: the STATION_LOST test of every LOST station, ascending. -/
def testLost (present : Protection → Nat → State → State) (s : State) : State :=
  (enrolled s).foldl (fun st n =>
    if isLost st n then reportTest present .stationLost n (stationLostHolds st n) st else st) s

/-- R101: the PATH_GATE test of every enrolled station, ascending. -/
def testGates (present : Protection → Nat → State → State) (s : State) : State :=
  (enrolled s).foldl (fun st n => reportTest present .pathGate n (pathGateHolds st n) st) s

/-- R87: a recomputation of the path set with the tests made at it (notes/assumptions/18). -/
def recomputePath (present : Protection → Nat → State → State) (s : State) : State :=
  testLost present (testGates present (writePath s))

/-! ## Raises (R162, R163, R169) -/

/-- R169: the first-out record of an entry created now. -/
def firstOutNow (s : State) (p : Protection) (n : Nat) : FirstOut where
  prot := p
  subject := n
  raisedAt := s.now
  cageDepth := depthKnown s .cage
  cagePos := posOf s .cage
  cwDepth := depthKnown s .counterweight
  cwPos := posOf s .counterweight
  skipDepth := depthKnown s .skip
  skipPos := posOf s .skip

/-- R162: the entry that a raise creates; subject 0 is none. -/
def newEntry (s : State) (p : Protection) (n : Nat) : FaultEntry :=
  let row := protRow (cfg s) p
  let e : FaultEntry := {
    prot := p
    action := actionInForce s p
    recovery := row.recovery
    retryTime := row.retryTime
    subjects := setOne n
    isHeld := momentary p
    raisedAt := s.now
    deadline := none }
  if e.isHeld then { e with deadline := retryDeadline s.now e } else e

/-- R162, R169: a new entry joins the tail, sets the first-out record of an empty list, and its RAISED
notice is queued. -/
def joinList (e : FaultEntry) (n : Nat) (s : State) : State :=
  let first := s.prt.entries.isEmpty
  let firstOut := firstOutNow s e.prot n
  faultNotice .raised none e n first
    (s.onPrt (fun x => { x with
      entries := x.entries ++ [e]
      firstOut := if first then some firstOut else x.firstOut }))

/-- R163: what a raise makes of an entry that stands already. -/
def raisedAgain (now : Nat) (n : Nat) (e : FaultEntry) : FaultEntry :=
  let subjects := setInsert n e.subjects
  if momentary e.prot then
    { e with subjects := subjects, isHeld := true, deadline := retryDeadline now e }
  else { e with subjects := subjects, isHeld := false, deadline := none }

/-- A raise: an entry that stands is changed (R163); otherwise, unless the action is OFF (R156), one is
created and `act` applies its action (R162). -/
def raiseWith (act : Action → State → State) (p : Protection) (n : Nat) (s : State) : State :=
  match entryOf s p with
  | some e => changeEntry .added (raisedAgain s.now n e) n s
  | none =>
    let e := newEntry s p n
    if e.action = .off then s
    else act e.action (joinList e n s)

/-- R152: a condition held over time is reported present for a subject. -/
def presentWith (act : Action → State → State) (p : Protection) (n : Nat) (s : State) : State :=
  if isPresent s p n then s
  else raiseWith act p n (setPresence p (setInsert n (presence s p)) s)

/-- R159: clamp on, if the CREEP entry just created is the only one in the list. -/
def clampIfFirst (s : State) : State :=
  if (s.prt.entries.filter (fun e => decide (e.action = .creep))).length = 1 then setClamp true s else s

/-- The action of an entry created by the tests that follow a departing trip (notes/assumptions/28): the lines
are withdrawn at once; a CONTROLLED action finds nothing to stop, and the winder trips when it has left its
run (`tripIfEmergency`). -/
def actDeparting (a : Action) (s : State) : State :=
  match a with
  | .emergency => withdrawAll s
  | .controlled => s
  | .creep => clampIfFirst s
  | .report => s
  | .off => s

/-- R205: the path recomputed after the ACTIVE trip has left that state. -/
def departPath (s : State) : State := recomputePath (presentWith actDeparting) s

end Sys2Proof.Machine
end

