-- ==== Sys2Proof/Machine/Actions.lean ====
section
/-! DEFINITION. What the Motion Sequencer does with a run: entering PROVING and MOVING (R110), arrival and
settling (R112, R113), controlled stops (R115, R116), search steps (R130, R131), suspension and abort
(R109, R119); the actions of new entries (R157, R158) and full raises; and the changeover with its
completion (R138, R139, R109). -/

namespace Sys2Proof.Machine

/-! ## A trip leaves ACTIVE (R76, R77, R205) -/

/-- R76, R205: the current trip becomes SUSPENDED, and the path reports that follow it are made. -/
def suspendCurrent (s : State) : State :=
  match s.msq.current with
  | none => departPath s
  | some id => departPath (moveTrip id .suspended .suspended s)

/-- R77, R205: the current trip is removed with an outcome and there is no current trip any more; where it
was ACTIVE, the path reports that follow are made. -/
def endCurrent (outcome : TripEnd) (s : State) : State :=
  match s.msq.current with
  | none => s
  | some id =>
    let t := setCurrent none (removeTrip id outcome s)
    if (activeTrip s).isSome then departPath t else t

/-! ## The EMERGENCY action (R119) -/

/-- R119, R113: the "within stop window" field of an abort. -/
def abortInWindow (s : State) : Bool :=
  match currentTrip s with
  | none => false
  | some t =>
    !decide (t.kind = .search) && (decide (s.msq.settle = some .arrived) || withinWindow s t)

/-- R119: the winder enters TRIPPED, the timers and the ramp are cancelled, and a current trip is aborted. The
path reports that follow the abort come before OVERSPEED is reported gone (notes/assumptions/29). -/
def tripWinder (s : State) : State :=
  let inWindow := abortInWindow s
  let s := s.onMsq (fun m => { m with
    phaseTimer := none, stopStart := none, excessStart := none, settle := none })
  leaveMotion (endCurrent (.aborted inWindow)
    (setCeiling Ceiling.idle (setWinder .tripped .emergency s)))

/-- R119, R121: the EMERGENCY action by the winder state. -/
def emergencyAction (s : State) : State :=
  match s.msq.winder with
  | .changeover => tripWinder s
  | .running _ => tripWinder s
  | .stopping _ => tripWinder s
  | .halted => tripWinder s
  | .parked => tripWinder s
  | .tripped => s
  | .commission => s

/-- Section 5.1, R119: a winder that has entered PARKED or HALTED with an EMERGENCY entry in the list trips at
once; the tests that follow a departing trip may have raised one (notes/assumptions/28). -/
def tripIfEmergency (s : State) : State :=
  if holdsAction .emergency s.prt.entries then emergencyAction s else s

/-! ## The ends of a run (R109, R110, R113, R131) -/

/-- R109, R110, R116: the trip is suspended and the winder enters HALTED; OVERSPEED goes after its notices
(notes/assumptions/29). -/
def suspendNow (cause : WinderCause) (s : State) : State :=
  tripIfEmergency
    (leaveMotion (setCeiling Ceiling.idle (setWinder .halted cause (suspendCurrent s))))

/-- R113, R131: the run ends; the trip is removed, the winder parks, OVERSPEED goes (notes/assumptions/29), and the
staged edits are applied. -/
def endRun (outcome : TripEnd) (s : State) : State :=
  let s := endCurrent outcome s
  let s := s.onMsq (fun m => { m with phaseTimer := none, stopStart := none, settle := none })
  tripIfEmergency (applyStaged (leaveMotion (enterParked .settled s)))

/-- The run's drum: that of the current trip. -/
def runDrum (s : State) : Option Drum := (currentTrip s).map tripDrum

/-- The search of the current trip has found its mark (R131). -/
def runFound (s : State) : Bool :=
  match runDrum s with
  | none => false
  | some d => (searchOf s d).any (fun r => r.found) &&
      (currentTrip s).any (fun t => decide (t.kind = .search))

/-! ## Settling and setting (R112, R116, R131) -/

/-- R112, R131: the permit of the run's drum is withdrawn and the winder settles towards an outcome. -/
def beginSettling (d : Drum) (outcome : SettleEnd) (cause : WinderCause) (s : State) : State :=
  startBrakeDelay (setCeiling Ceiling.braked (setSettle (some outcome)
    (setWinder (.running .settling) cause (withdrawPermit d s))))

/-- R116: the stop passes into SETTING. -/
def beginSetting (d : Drum) (s : State) : State :=
  startBrakeDelay (setCeiling Ceiling.braked
    (setWinder (.stopping .setting) .standstill (withdrawPermit d s)))

/-- The trip with an id runs a given search step (R130). -/
def setStep (id step : Nat) (s : State) : State :=
  s.onTqm (fun q => { q with
    trips := q.trips.map (fun t => if t.id = id then { t with step := step } else t) })

/-- R130: an exhausted step 1 to 3 ends; the step advances, the direction reverses and the hold leaves
the target, with a WINDER notice. -/
def reverseSearch (t : Trip) (s : State) : State :=
  let d := tripDrum t
  let s := setStep t.id (t.step + 1) s
  let s := onSearch d (fun r => { r with dir := opposite r.dir, exhausted := false }) s
  let s := s.onMsq (fun m => { m with direction := (searchOf s d).map (fun r => r.dir) })
  winderNotice .searchStep s.msq.winder s

/-- R116, R130, R131: the drum of a stop stands. An exhausted step without a find ends here: steps 1 to 3
reverse, and step 4 settles ABORTED. -/
def stopStands (s : State) : State :=
  match currentTrip s with
  | none => s
  | some t =>
    let d := tripDrum t
    match t.kind, searchOf s d with
    | .search, some r =>
      if r.exhausted && !r.found then
        if t.step < 4 then beginSetting d (reverseSearch t s)
        else beginSetting d (setSettle (some .aborted) s)
      else beginSetting d s
    | .search, none => beginSetting d s
    | .personnel, _ => beginSetting d s
    | .material, _ => beginSetting d s
    | .rock, _ => beginSetting d s
    | .inspect, _ => beginSetting d s

/-- R112, R130, R131: what standstill of the run's drum does in MOVING. `exhausted` says whether the step
counts as exhausted before this standstill. A search found before MOVING, in PROVING or CHANGEOVER, ends here
like one found in MOVING (notes/assumptions/46). -/
def movingStands (exhausted : Bool) (s : State) : State :=
  match currentTrip s with
  | none => s
  | some t =>
    let d := tripDrum t
    match t.kind, searchOf s d with
    | .search, some r =>
      if r.found then beginSettling d .arrived .arrival s
      else if exhausted then
        if t.step < 4 then bringToTarget (reverseSearch t s)
        else beginSettling d .aborted .standstill s
      else s
    | .search, none => s
    | .personnel, _ => arrive t s
    | .material, _ => arrive t s
    | .rock, _ => arrive t s
    | .inspect, _ => arrive t s
where
  arrive (t : Trip) (s : State) : State :=
    if withinWindow s t then beginSettling (tripDrum t) .arrived .arrival s else s

/-! ## Controlled stops (R115, R116) -/

/-- R116: STOPPING begins from MOVING; a drum that stands already passes into SETTING at once. -/
def beginStop (cause : WinderCause) (s : State) : State :=
  let s := setWinder (.stopping .decelerating) cause s
  let s := bringToTarget (s.onMsq (fun m => { m with stopStart := some s.now }))
  match currentTrip s with
  | none => s
  | some t => if atStandstill s (tripDrum t) then stopStands s else s

/-- R109, R110, R45: a run that is not in MOVING ends at once. Its trip is suspended, but for a search that has
found its mark, which is removed ARRIVED (notes/assumptions/39). -/
def stopAtOnce (cause : WinderCause) (s : State) : State :=
  if runFound s then endRun .arrived s else suspendNow cause s

/-- R109, R110, R114, R115: a CONTROLLED action or a STOP by the winder state. -/
def stopRun (cause : WinderCause) (s : State) : State :=
  match s.msq.winder with
  | .changeover => stopAtOnce cause (releaseCommands s)
  | .running .proving => stopAtOnce cause (withdrawDrv (setTimer none s))
  | .running .moving => beginStop cause s
  | .running .settling => s
  | .stopping _ => s
  | .commission => s
  | .parked => s
  | .halted => s
  | .tripped => s

/-! ## Actions and raises (R157 to R159) -/

/-- R157, R158, R159: the action of a new entry is applied. -/
def applyAction (a : Action) (s : State) : State :=
  match a with
  | .emergency => emergencyAction (withdrawAll s)
  | .controlled => stopRun .controlled s
  | .creep => clampIfFirst s
  | .report => s
  | .off => s

/-- A raise for a subject; 0 is none (R162, R163). -/
def raise (p : Protection) (n : Nat) (s : State) : State := raiseWith applyAction p n s

/-- A condition held over time is reported present for a subject (R152). -/
def present (p : Protection) (n : Nat) (s : State) : State := presentWith applyAction p n s

/-- The path recomputed for a running trip, with its tests (R87). -/
def runPath (s : State) : State := recomputePath present s

/-- A condition reported present or gone by a test. -/
def report (p : Protection) (n : Nat) (holds : Bool) (s : State) : State := reportTest present p n holds s

/-! ## PROVING and MOVING (R110, R111) -/

/-- R110: entry into PROVING. -/
def enterProving (cause : WinderCause) (s : State) : State :=
  let s := setWinder (.running .proving) cause s
  let s := assertDrv s
  let dir := match currentTrip s with
    | some t => runDirection s t
    | none => none
  let s := s.onMsq (fun m => { m with direction := dir })
  setTimer (some (.torque (s.now + (cfg s).params.torqueDelay.toNat))) (setCeiling Ceiling.braked s)

/-- R110: TORQUE_DELAY has run; the phase becomes MOVING under the target. -/
def enterMoving (s : State) : State :=
  let s := setTimer none (setWinder (.running .moving) .proven s)
  match currentTrip s with
  | none => s
  | some t => bringToTarget (assertPermit (tripDrum t) s)

/-! ## The changeover (R138, R139, R109) -/

/-- R138, R109: the changeover ends and its completion is reported; a winder no longer in CHANGEOVER does
nothing with it. -/
def changeoverDone (s : State) : State :=
  let s := setChangeover none s
  match s.msq.winder with
  | .changeover => enterProving .changeoverDone s
  | .commission => s
  | .parked => s
  | .running _ => s
  | .stopping _ => s
  | .halted => s
  | .tripped => s

/-- R139: the engagement of the target drum has completed. -/
def engageDone (target : Drum) (s : State) : State :=
  changeoverDone (endMovement target .engage .engaged s)

/-- R138, R139: the second movement, skipped for a clutch that is ENGAGED. -/
def engagePhase (target : Drum) (s : State) : State :=
  if (clutchOf s target).state = .engaged then changeoverDone s
  else
    let s := startMovement target .engage s
    if (clutchOf s target).reading = .atEngaged then engageDone target s else s

/-- R139: the release of the other drum has completed; the second movement follows. -/
def releaseDone (target : Drum) (s : State) : State :=
  engagePhase target (setChangeover (some ⟨target, none⟩)
    (endMovement (otherDrum target) .release .free s))

/-- R138: a changeover to a drum is asked for; it is carried out when the emergency block is clear, the
permits and DRV are withdrawn, and none is in progress. -/
def askChangeover (target : Drum) (s : State) : State :=
  if s.cpl.block || s.cpl.brk1 || s.cpl.brk2 || s.cpl.drv || s.cpl.changeover.isSome then s
  else
    let s := setChangeover (some ⟨target, none⟩) s
    if (clutchOf s (otherDrum target)).state = .free then engagePhase target s
    else
      let s := startMovement target .release s
      if (clutchOf s (otherDrum target)).reading = .atFree then releaseDone target s else s

/-- R108, R109: the Motion Sequencer takes a trip that START has made ACTIVE. -/
def takeTrip (t : Trip) (cause : WinderCause) (s : State) : State :=
  let d := tripDrum t
  let s := setCurrent (some t.id) s
  if (clutchOf s d).state = .engaged ∧ (clutchOf s (otherDrum d)).state = .free then
    enterProving cause s
  else askChangeover d (setWinder .changeover cause s)

/-! ## The end of BRAKE_SET_DELAY (R113, R116, R131) -/

/-- R131: a failed search raises RECONCILE_FAIL for its drum after the winder has parked. -/
def failRun (d : Drum) (s : State) : State :=
  raise .reconcileFail (drumNumber d) (endRun (.aborted false) s)

/-- R113: the end of SETTLING. -/
def settlingEnds (s : State) : State :=
  match s.msq.settle, runDrum s with
  | some .aborted, some d => failRun d s
  | some .aborted, none => endRun (.aborted false) s
  | some .arrived, _ => endRun .arrived s
  | none, _ => endRun .arrived s

/-- R116, R130, R131: the end of SETTING: a found or failed search ends, every other trip is
suspended, a search with a step exhausted in SETTING among them (notes/assumptions/35). -/
def settingEnds (s : State) : State :=
  match s.msq.settle, runDrum s with
  | some .aborted, some d => failRun d s
  | _, _ =>
    if runFound s then endRun .arrived s
    else suspendNow .suspended
      (s.onMsq (fun m => { m with phaseTimer := none, stopStart := none }))

/-- R113, R116: BRAKE_SET_DELAY has run in a phase or stage; DRV is withdrawn first. -/
def brakeSet (s : State) : State :=
  let s := withdrawDrv s
  match s.msq.winder with
  | .running .settling => settlingEnds s
  | .stopping .setting => settingEnds s
  | .running .proving => s
  | .running .moving => s
  | .stopping .decelerating => s
  | .commission => s
  | .parked => s
  | .changeover => s
  | .halted => s
  | .tripped => s

end Sys2Proof.Machine
end

