-- ==== Sys2Proof/Machine/Rounds.lean ====
section
/-! DEFINITION. Polling and answers on the station line (R82, R88 to R98, R102, R103): rounds and the
rotation pointer, link states, losses, signals and their results. -/

namespace Sys2Proof.Machine

/-! ## Link states (R91) -/

/-- R91: the entry after a good answer. -/
def heardStation (e : Station) : Station :=
  match e.link with
  | .unheard => { e with link := .online, misses := 0, rejoin := 0 }
  | .online => { e with link := .online, misses := 0, rejoin := 0 }
  | .missing => { e with link := .online, misses := 0, rejoin := 0 }
  | .lost =>
    if e.rejoin = 0 then { e with misses := 0, rejoin := 1 }
    else { e with link := .online, misses := 0, rejoin := 0 }

/-- R91: the entry after a miss, with LOST_MISSES. -/
def missedStation (limit : Nat) (e : Station) : Station :=
  match e.link with
  | .unheard =>
    if e.misses + 1 < limit then { e with misses := e.misses + 1, rejoin := 0 }
    else { e with link := .lost, misses := limit, rejoin := 0 }
  | .online =>
    if 1 < limit then { e with link := .missing, misses := 1, rejoin := 0 }
    else { e with link := .lost, misses := 1, rejoin := 0 }
  | .missing =>
    if e.misses + 1 < limit then { e with misses := e.misses + 1, rejoin := 0 }
    else { e with link := .lost, misses := limit, rejoin := 0 }
  | .lost => { e with misses := min 15 (e.misses + 1), rejoin := 0 }

/-- R94, steps 1 and 2: the entry as the entry into LOST leaves it. -/
def lostValues (e : Station) : Station := { e with gatesOpen := true, hold := false, result := none }

/-- R103: the STATION notice of a change of link state from `before`, with the values now held. -/
def stationNotice (n : Nat) (before : LinkState) (s : State) : State :=
  match stationOf s n with
  | none => s
  | some e =>
    notify (.station n before e.link e.misses e.gatesOpen e.hold (setHas (attended s) n)) s

/-- R99 to R101: the three tests of a station. -/
def testStation (n : Nat) (s : State) : State :=
  let s := report .stationHold n (stationHoldHolds s n) s
  let s := report .pathGate n (pathGateHolds s n) s
  report .stationLost n (stationLostHolds s n) s

/-! ## Misses and losses (R92, R94) -/

/-- R94: a station has entered LOST from the entry `old`. -/
def loseStation (n : Nat) (old : Station) (s : State) : State :=
  let s := stationNotice n old.link (onStation n lostValues s)
  let s := stationLoss n s
  let s := if old.gatesOpen then s else gatesOpened n s
  testStation n s

/-- R92: the exchange with a station has ended as a miss. -/
def takeMiss (n : Nat) (s : State) : State :=
  match stationOf s n with
  | none => s
  | some old =>
    let new := missedStation (cfg s).params.lostMisses.toNat old
    let s := onStation n (fun _ => new) s
    let s :=
      if old.link = new.link then s
      else if new.link = .lost then loseStation n old s
      else stationNotice n old.link s
    let s := report .stationLost n (stationLostHolds s n) s
    report .pathGate n (pathGateHolds s n) s

/-! ## Signals (R96, R97, R102) -/

/-- The result of a signal and what the signal then does to the part. -/
structure Dispatch where
  result : SignalResult
  act : State → State

/-- A signal answered with a result that names no trip, and no effect. -/
def answerSignal (signal : Byte) (r : Result) : Dispatch := ⟨⟨signal, r, 0, 0⟩, id⟩

/-- R56: the destination of a CALL; 0xFF is the calling station's own level. -/
def callDest (s : State) (n : Nat) (dest : Byte) : Option Nat :=
  if dest = 0xFF then (tableGet n (cfg s).stations).bind (fun e => e.level) else some dest.toNat

/-- R56 to R58: a CALL, handed over with the mask that governs it. -/
def dispatchCall (n : Nat) (mask : Option Mask) (a : StationAnswer) (s : State) : Dispatch :=
  match admission s mask a.arg1.toNat a.arg2.toNat (callDest s n a.arg3) with
  | .inl r => answerSignal a.signal r
  | .inr (conv, kind, dest) =>
    let t := admittedTrip s n conv kind dest
    ⟨⟨a.signal, .accepted, t.id, 0⟩, joinQueue t⟩

/-- R59: a READY with the gate reading of the same answer. -/
def dispatchReady (n : Nat) (a : StationAnswer) (s : State) : Dispatch :=
  let gained := s.tqm.trips.filter (readyGains s n)
  if a.status.getLsbD 0 then answerSignal a.signal .gatesOpen
  else match gained.head? with
    | none => answerSignal a.signal .nothingToConfirm
    | some t => ⟨⟨a.signal, .confirmed, t.id, gained.length⟩, takeReady n⟩

/-- R69: a CANCEL; its results name the id, refused or not. -/
def dispatchCancel (n : Nat) (a : StationAnswer) (s : State) : Dispatch :=
  let id := a.arg1.toNat
  match tripById s id with
  | none => ⟨⟨a.signal, .noSuchTrip, id, 0⟩, fun s => s⟩
  | some t =>
    if t.requester ≠ n then ⟨⟨a.signal, .notYours, id, 0⟩, fun s => s⟩
    else if !waiting t then ⟨⟨a.signal, .active, id, 0⟩, fun s => s⟩
    else ⟨⟨a.signal, .cancelled, id, 0⟩, removeTrip id (.withdrawn .cancelled)⟩

/-- R85, R96: the dispatch of a signal byte other than 0 under the mask that governs it, the cases in
order. -/
def dispatchSignal (n : Nat) (mask : Option Mask) (a : StationAnswer) (s : State) : Dispatch :=
  let online := (stationOf s n).any (fun e => decide (e.link = .online))
  match a.signal.toNat with
  | 1 =>
    if !online then answerSignal a.signal .notOnline
    else if !mask.any (fun m => m.call) then answerSignal a.signal .notPermitted
    else dispatchCall n mask a s
  | 2 =>
    if !online then answerSignal a.signal .notOnline
    else if !mask.any (fun m => m.ready) then answerSignal a.signal .notPermitted
    else dispatchReady n a s
  | 3 =>
    if !online then answerSignal a.signal .notOnline
    else if !mask.any (fun m => m.cancel) then ⟨⟨a.signal, .notPermitted, a.arg1.toNat, 0⟩, id⟩
    else dispatchCancel n a s
  | _ => answerSignal a.signal .outOfRange

/-- R96, R98, R102: a signal is dispatched: its SIGNAL notice first, then its effect, and its result
becomes the pending result. The notice carries the argument bytes as received, whatever the signal
(notes/assumptions/44). -/
def takeSignal (n : Nat) (mask : Option Mask) (a : StationAnswer) (s : State) : State :=
  match stationOf s n with
  | none => s
  | some e =>
    let d := dispatchSignal n mask a s
    let s := notify (.signal n a.signal a.arg1 a.arg2 a.arg3 d.result e.link e.gatesOpen e.hold) s
    onStation n (fun e => { e with result := some d.result }) (d.act s)

/-! ## Good answers (R89, R90, R203) -/

/-- R203: the check byte of an answer. -/
def answerCheck (a : StationAnswer) : Byte :=
  frameCheck [a.station, a.status, a.signal, a.arg1, a.arg2, a.arg3]

/-- R89, R203: the answer is good for the station polled. -/
def goodAnswer (n : Nat) (a : StationAnswer) : Bool :=
  decide (a.start = 0x5A) && !a.lineError && decide (a.check = answerCheck a) &&
    decide (a.station.toNat = n)

/-- R90, step 3, and R93: the readings of an ONLINE station are taken; gates opened are reported. -/
def takeReadings (n : Nat) (a : StationAnswer) (s : State) : State :=
  match stationOf s n with
  | none => s
  | some e =>
    if e.link = .online then
      let s := onStation n (fun e => { e with
        gatesOpen := a.status.getLsbD 0, hold := a.status.getLsbD 1 }) s
      if a.status.getLsbD 0 && !e.gatesOpen then gatesOpened n s else s
    else s

/-- R90: a good answer, in the order of its steps. `delivered` says that the poll carried a result. The signal
is governed by the mask as it stands when the answer is taken (R85). -/
def takeAnswer (n : Nat) (delivered : Bool) (a : StationAnswer) (s : State) : State :=
  match stationOf s n with
  | none => s
  | some old =>
    let mask := maskOf s n
    let new := heardStation { old with result := if delivered then none else old.result }
    let s := onStation n (fun _ => new) s
    let s := if old.link = new.link then s else stationNotice n old.link s
    let s := testStation n (takeReadings n a s)
    if a.signal = 0 then s else takeSignal n mask a s

/-! ## Exchanges and rounds (R82, R88, R89) -/

/-- The exchange written. -/
def setExchange (x : Option Exchange) (s : State) : State := s.onSlc (fun c => { c with exchange := x })

/-- R81, R89: the display field for a station: the trip nearest the head that names it as the source of a
required confirmation, in any state. -/
def displayFor (s : State) (n : Nat) : Option Trip :=
  s.tqm.trips.find? (fun t => decide (n ∈ sourcesOf s t.required t))

/-- R82, R89: the poll of a station goes out and its exchange begins. -/
def pollStation (n : Nat) (s : State) : State :=
  let display := displayFor s n
  setExchange (some {
    station := n
    result := (stationOf s n).bind (fun e => e.result)
    displayId := display.elim 0 (fun t => t.id)
    displayState := display.map (fun t => t.state)
    deadline := s.now + (cfg s).params.answerWindow.toNat }) s

/-- R88: the numbers in the order in which the rotation searches them: from the pointer plus 1, wrapping
from 24 to 1. -/
def rotationOrder (pointer : Nat) : List Nat := (List.range 24).map (fun i => (pointer + i) % 24 + 1)

/-- R88: the next unattended station of the rotation. -/
def nextUnattended (s : State) (polling : SubjectSet) : Option Nat :=
  (rotationOrder s.slc.pointer).find? (fun n => decide (n ∈ enrolled s) && !setHas polling n)

/-- R88: what the round in progress polls next: an attended station, or an unattended one with the pointer
moved to it, or nothing more. -/
def roundNext (s : State) (r : Round) : Option (Nat × Bool) :=
  match (setMembers r.attendedLeft).head? with
  | some n => some (n, true)
  | none =>
    if r.unattended.length < (cfg s).params.unattendedPerRound.toNat then
      match nextUnattended s r.pollingSet with
      | none => none
      | some n => if n ∈ r.unattended then none else some (n, false)
    else none

/-- R88: the round after it polls a station. -/
def roundPolled (r : Round) (n : Nat) (att : Bool) : Round :=
  if att then { r with attendedLeft := setErase n r.attendedLeft }
  else { r with unattended := r.unattended ++ [n] }

/-- R88: a station of the round is polled. -/
def pollInRound (r : Round) (n : Nat) (att : Bool) (s : State) : State :=
  pollStation n (s.onSlc (fun c => { c with
    round := some (roundPolled r n att)
    pointer := if att then c.pointer else n }))

/-- R88, R99: a round starts: its polling set is the attended set as it stands, and every LOST station is
tested. -/
def startRound (s : State) : State :=
  let polling := attended s
  testLost present (s.onSlc (fun c => { c with round := some ⟨polling, polling, []⟩ }))

/-- R88: the next poll of the round in progress goes out, if it has one. -/
def pollNext (s : State) : Option State :=
  match s.slc.round with
  | none => none
  | some r => (roundNext s r).map (fun x => pollInRound r x.1 x.2 s)

/-- R82, R88: the line may carry a poll: outside COMMISSION, with a station enrolled and no exchange in
progress. -/
def lineReady (s : State) : Bool :=
  !inCommission s && !(enrolled s).isEmpty && s.slc.exchange.isNone

/-- R82, R88: the next poll, of the round in progress or of a new one. -/
def sendPoll (s : State) : State :=
  if lineReady s then
    match pollNext s with
    | some t => t
    | none =>
      let s := startRound s
      (pollNext s).getD s
  else s

/-- R82, R89: an answer taken whole ends the exchange: good and in time, or a miss. -/
def receiveAnswer (a : StationAnswer) (s : State) : State :=
  match s.slc.exchange with
  | none => s
  | some x =>
    let s := setExchange none s
    if s.now ≤ x.deadline ∧ goodAnswer x.station a then takeAnswer x.station x.result.isSome a s
    else takeMiss x.station s

/-- R82, R92: ANSWER_WINDOW runs out. -/
def windowEnds (s : State) : State :=
  match s.slc.exchange with
  | none => s
  | some x => takeMiss x.station (setExchange none (advanceTo x.deadline s))

end Sys2Proof.Machine
end

