-- ==== Sys2Proof/Machine/Sampling.lean ====
section
/-! DEFINITION. What a sample of a drum does (R22 to R29, R36 to R39, R126 to R130, R144 to R147, R153),
what standstill does, and how a mark pulse is matched, graded and taken by a search (R31 to R38, R44,
R45). -/

namespace Sys2Proof.Machine

/-! ## A conveyance becomes UNKNOWN (R29, R35, R54) -/

/-- The conveyance takes position state UNKNOWN and its next-expected mark becomes absent; datum, drift
and miss count are kept. -/
def makeUnknown (conv : Conveyance) (s : State) : State :=
  onConv conv (fun c => { c with pos := .unknown, expected := none }) s

/-- R29: every conveyance of a drum becomes UNKNOWN, and the Trip Queue Manager hears of it (R54). -/
def loseDrum (d : Drum) (s : State) : State :=
  originLost (referenceConv d) ((drumConvs d).foldl (fun st conv => makeUnknown conv st) s)

/-- R27 to R29: ENCODER_FAULT is raised for a drum, and R29 is then applied (notes/assumptions/30). -/
def encoderFault (d : Drum) (s : State) : State :=
  loseDrum d (raise .encoderFault (drumNumber d) s)

/-! ## Taking a sample (R22, R25 to R28) -/

/-- The ends of the range of a count (R22). -/
def countLow : Int := -2147483648

def countHigh : Int := 2147483647

/-- The range end at which a count stands, if any: what R22 and R27 call held at an end (notes/assumptions/42). -/
def endOf (count : Int) : Option RangeEnd :=
  if count ≤ countLow then some .low else if count ≥ countHigh then some .high else none

/-- R25, R28: the history as a sample leaves it. -/
def sampledHistory (t : DrumTrack) : List Int :=
  if t.resume then List.replicate 11 t.count else (t.count :: t.history).take 11

/-- R26: the sample is quiet. -/
def quietSpeed (speed : Int) : Bool := decide (speed.natAbs ≤ 2)

/-- R22, R25, R26: the record of a drum after a sample taken while the fault line is clear. Without a
configuration in force no speed is computed and standstill is not established (R23, R26). -/
def sampledTrack (p : Params) (known : Bool) (d : Drum) (t : DrumTrack) : DrumTrack :=
  let history := sampledHistory t
  let speed := if known then historySpeed p d history else 0
  let quiet := known && quietSpeed speed
  { t with
    used := t.count
    history := history
    speed := speed
    quiet := if quiet then min 20 (t.quiet + 1) else 0
    standstill := t.standstill && quiet
    heldEnd := endOf t.count
    resume := false }

/-- R27: the step test at a sample, on the record before it: the step exceeds 30 cm. -/
def stepTooLong (p : Params) (known : Bool) (d : Drum) (t : DrumTrack) : Bool :=
  known && !t.resume &&
    decide (((((t.count - t.history.headD 0).natAbs : Int) * 1000).tdiv (scaleOf p d)) > 30)

/-- R27: the sample finds the count held at an end at which the sample before did not find it. A count that stands
at an end is held there, whether or not edges were lost (notes/assumptions/42). -/
def newlyHeld (t : DrumTrack) : Bool :=
  (endOf t.count).isSome && !decide (endOf t.count = t.heldEnd)

/-- R36: the next-expected marks of a drum's conveyances are due at the next sample that sets a
direction. -/
def aimAgain (d : Drum) (s : State) : State :=
  (drumConvs d).foldl (fun st conv => onConv conv (fun c => { c with aimDue := true }) st) s

/-- R26, R62, R54: what standstill left does; the brake watch and the winder keep their course. -/
def standstillLeft (d : Drum) (s : State) : State := originLost (referenceConv d) (aimAgain d s)

/-- R22, R25 to R29: the Depth Tracker takes the sample. While the fault line is asserted nothing of it is
updated. A step too long and a count newly held at an end make one raise (notes/assumptions/33); standstill
left, with its reports, comes before it (notes/assumptions/37). -/
def takeSample (d : Drum) (s : State) : State :=
  let t := drumTrack s d
  if t.faultLine then s
  else
    let p := (cfg s).params
    let s := onDrum d (sampledTrack p (hasDepth s) d) s
    let s := if t.standstill && !atStandstill s d then standstillLeft d s else s
    if stepTooLong p (hasDepth s) d t || newlyHeld t then encoderFault d s else s

/-! ## Directions and missed marks (R36 to R38) -/

/-- R36: the direction of travel of a conveyance at a sample, and its next-expected mark where that is
recomputed. -/
def steer (conv : Conveyance) (s : State) : State :=
  let speed := convSpeed s conv
  if quietSpeed speed then s
  else
    let dir : Dir := if speed > 0 then .down else .up
    let c := convTrack s conv
    if c.aimDue || !decide (c.dir = some dir) then
      reaim conv (onConv conv (fun c => { c with dir := some dir, aimDue := false }) s)
    else s

/-- R37: the depth has passed the mark by more than SUSPECT_TOL in the direction. -/
def passedBy (tol : Int) (dir : Dir) (mark depth : Int) : Bool :=
  match dir with
  | .down => decide (depth > mark + tol)
  | .up => decide (depth < mark - tol)

/-- R37, R38: a mark is missed: the record, the MARK notice, and MARK_MISSED where the count has reached
MISS_LIMIT, in that order and before the test is repeated (notes/assumptions/41). -/
def missMark (conv : Conveyance) (number : Nat) (dir : Dir) (depth : Int) (s : State) : State :=
  let next := aimFrom s conv (some dir) depth
  let s := onConv conv (fun c => { c with
    misses := min 15 (c.misses + 1), pos := .suspect, expected := next }) s
  let c := convTrack s conv
  let s := notify (.mark .missed conv number none c.drift .suspect c.misses 0 none) s
  if (c.misses : Int) ≥ (cfg s).params.missLimit then present .markMissed (convNumber conv) s else s

/-- R37: the missed-mark test, repeated against each advanced mark; a compartment holds at most 12
marks, so `tries` of 12 leaves none out. -/
def missedTest (conv : Conveyance) : Nat → State → State
  | 0, s => s
  | tries + 1, s =>
    let c := convTrack s conv
    match c.dir, c.expected with
    | some dir, some number =>
      match tableGet number (marksOf (cfg s) (convComp conv)) with
      | none => s
      | some depth =>
        if !isUnknown s conv && passedBy (cfg s).params.suspectTol dir depth (depthOf s conv) then
          missedTest conv tries (missMark conv number dir depth s)
        else s
    | some _, none => s
    | none, _ => s

/-- R36: the directions of a drum's conveyances at a sample. -/
def steerDrum (d : Drum) (s : State) : State :=
  (drumConvs d).foldl (fun st conv => steer conv st) s

/-- R37: the missed-mark tests of a drum's conveyances; not made while the fault line is asserted (R28). -/
def missedDrum (d : Drum) (s : State) : State :=
  if (drumTrack s d).faultLine then s
  else (drumConvs d).foldl (fun st conv => missedTest conv 12 st) s

/-- R36, R37: the marks of a drum's conveyances at a sample; none of it while a configuration is absent or
the drum at standstill. An asserted fault line leaves the directions to the frozen speed (R28). -/
def watchMarks (d : Drum) (s : State) : State :=
  if !hasDepth s || atStandstill s d then s else missedDrum d (steerDrum d s)

/-! ## The link check (R39) -/

/-- The link check runs. -/
def linkRuns (s : State) : Bool :=
  hasDepth s && !s.dpt.drum1.faultLine && !isUnknown s .cage && !isUnknown s .counterweight

/-- R39: the link error. -/
def linkErrorNow (s : State) : Int :=
  depthOf s .cage + depthOf s .counterweight - (cfg s).params.linkSum

/-- R39: the link check at a sample of drum 1. -/
def checkLink (s : State) : State :=
  if linkRuns s then
    let e := linkErrorNow s
    report .linkMismatch 1 (decide ((e.natAbs : Int) > (cfg s).params.linkTol))
      (s.onDpt (fun p => { p with linkError := some e }))
  else gone .linkMismatch 1 (s.onDpt (fun p => { p with linkError := none }))

/-! ## The run at a sample (R43, R123, R126, R127, R129) -/

/-- R43, R129: the reference conveyance has reached the exhaustion point of the step. -/
def stepReached (r : SearchRec) (step : Nat) (depth : Int) : Bool :=
  match r.dir with
  | .down => decide (depth ≥ r.assumed + stepWindow step)
  | .up => decide (depth ≤ r.assumed - stepWindow step)

/-- R129: the exhaustion test of a SEARCH trip. A step first exhausted in SETTING stays exhausted through the
suspension that ends the stop (notes/assumptions/35). -/
def testExhaustion (t : Trip) (s : State) : State :=
  match t.kind, searchOf s (tripDrum t) with
  | .search, some r =>
    if !r.exhausted && stepReached r t.step (depthOf s t.conv) then
      onSearch (tripDrum t) (fun r => { r with exhausted := true }) s
    else s
  | .search, none => s
  | .personnel, _ => s
  | .material, _ => s
  | .rock, _ => s
  | .inspect, _ => s

/-- R126: the forward speed of the run. -/
def forwardSpeed (s : State) (t : Trip) : Int :=
  match s.msq.direction with
  | some .up => -convSpeed s t.conv
  | some .down => convSpeed s t.conv
  | none => convSpeed s t.conv

/-- R126: the threshold of a forward excess. -/
def overspeedThreshold (p : Params) (ceiling : Nat) : Int :=
  (ceiling : Int) + max (((ceiling : Int) * p.overspeedMargin).tdiv 100) 10

/-- R126: the sample shows an excess, forward or reverse. -/
def showsExcess (s : State) (t : Trip) : Bool :=
  decide (forwardSpeed s t > overspeedThreshold (cfg s).params s.msq.ceiling.value) ||
    decide (forwardSpeed s t < -5)

/-- R127: the excess test of the run's drum. -/
def testExcess (t : Trip) (s : State) : State :=
  let n := drumNumber (tripDrum t)
  if showsExcess s t then
    match s.msq.excessStart with
    | none => s.onMsq (fun m => { m with excessStart := some s.now })
    | some start =>
      if (s.now : Int) - (start : Int) > (cfg s).params.overspeedDeglitch then present .overspeed n s
      else s
  else gone .overspeed n (clearExcess s)

/-- R112, R130: standstill at a sample in MOVING; a step counts as exhausted if it was so before the
sample. -/
def sampleStands (d : Drum) (exhausted : Bool) (s : State) : State :=
  match s.msq.winder with
  | .running .moving => if atStandstill s d then movingStands exhausted s else s
  | .running .proving => s
  | .running .settling => s
  | .stopping _ => s
  | .commission => s
  | .parked => s
  | .changeover => s
  | .halted => s
  | .tripped => s

/-- The search step of a drum is exhausted. -/
def stepExhausted (s : State) (d : Drum) : Bool := (searchOf s d).any (fun r => r.exhausted)

/-- What the Motion Sequencer does at a sample of the run's drum; the excess and standstill tests read the
ceiling as this sample has brought it (notes/assumptions/8). -/
def sampleRun (d : Drum) (s : State) : State :=
  match currentTrip s with
  | none => s
  | some t =>
    if inMotion s.msq.winder && decide (tripDrum t = d) then
      sampleStands d (stepExhausted s d) (testExcess t (bringToTarget (testExhaustion t s)))
    else s

/-- R87: the path is recomputed at a sample of the ACTIVE trip's drum. -/
def samplePath (d : Drum) (s : State) : State :=
  match activeTrip s with
  | none => s
  | some t => if tripDrum t = d then runPath s else s

/-! ## Brakes and limits at a sample (R145, R147, R153) -/

/-- R145, R147: the brake watch at a sample of its drum. While the fault line is asserted speed and count are
frozen, so that neither test is made. -/
def sampleWatch (d : Drum) (s : State) : State :=
  if !hasDepth s || (drumTrack s d).faultLine then s
  else match watchOf s d with
    | .none => s
    | .fade refSpeed _ =>
      if ((drumTrack s d).speed.natAbs : Int) > refSpeed + 10 then
        raise .brakeFade (drumNumber d) (setWatch d .none s)
      else s
    | .held refCount _ =>
      let moved := heldMovement s d refCount
      if moved > (cfg s).params.heldTol then
        raise .heldDrumMove (drumNumber d) (setWatch d .none s)
      else setWatch d (.held refCount moved) s

/-- R128: the conveyances of a drum are exempt from the overwind test: a SEARCH trip of the drum is ACTIVE. -/
def overwindExempt (s : State) (d : Drum) : Bool :=
  match activeTrip s with
  | none => false
  | some t => decide (t.kind = .search) && decide (tripDrum t = d)

/-- R153: OVERWIND is present for the conveyance at this sample. -/
def overwound (exempt : Bool) (s : State) (conv : Conveyance) : Bool :=
  hasDepth s && !isUnknown s conv && !exempt && beyondLimit (cfg s) conv (depthOf s conv)

/-- R153: the overwind test of a drum's conveyances, on drum 1 CAGE before COUNTERWEIGHT
(notes/assumptions/8). -/
def sampleOverwind (exempt : Bool) (d : Drum) (s : State) : State :=
  (drumConvs d).foldl (fun st conv =>
    report .overwind (convNumber conv) (overwound exempt st conv) st) s

/-- R22 to R29, R36 to R39, R123 to R130, R87, R145, R147, R153: one sample of a drum, the blocks acting in
the order of notes/assumptions/8. A search trip that leaves ACTIVE in the sample is exempt from the overwind
test in it still: R128 has the test made at the first sample after that (notes/assumptions/8). -/
def sampleDrum (d : Drum) (s : State) : State :=
  let exempt := overwindExempt s d
  let s := advanceTo ((drumTrack s d).sampledAt + 10) s
  let s := onDrum d (fun t => { t with sampledAt := s.now }) s
  let s := watchMarks d (takeSample d s)
  let s := match d with
    | .d1 => checkLink s
    | .d2 => s
  sampleOverwind exempt d (sampleWatch d (samplePath d (sampleRun d s)))

/-! ## Standstill (R26, R54, R112, R116, R130, R146) -/

/-- R26: twenty quiet samples in a row, 200 ms, have been taken and standstill is not established yet. -/
def standstillDue (s : State) (d : Drum) : Bool :=
  hasDepth s && !(drumTrack s d).faultLine && !atStandstill s d &&
    decide ((drumTrack s d).quiet ≥ 20)

/-- What the Motion Sequencer does at standstill reached of the run's drum. A further standstill in SETTING
does nothing, a step exhausted since included (notes/assumptions/35). -/
def runStands (d : Drum) (s : State) : State :=
  match runDrum s with
  | none => s
  | some e =>
    if e = d then
      match s.msq.winder with
      | .running .moving => movingStands (stepExhausted s d) s
      | .stopping .decelerating => stopStands s
      | .running .proving => s
      | .running .settling => s
      | .stopping .setting => s
      | .commission => s
      | .parked => s
      | .changeover => s
      | .halted => s
      | .tripped => s
    else s

/-- R26: standstill is established, with its effects. -/
def reachStandstill (d : Drum) (s : State) : State :=
  if standstillDue s d then
    let s := onDrum d (fun t => { t with standstill := true }) s
    watchStandstill d (runStands d (originFound (referenceConv d) s))
  else s

/-! ## Mark pulses (R31 to R35, R44, R45) -/

/-- The record of a conveyance after an accepted pulse of error `e` (R34). -/
def acceptedTrack (e : Int) (pos : PosState) (c : ConvTrack) : ConvTrack :=
  { c with drift := c.drift + e, pos := pos, misses := 0 }

/-- R34, R38: a pulse is accepted. -/
def acceptMark (conv : Conveyance) (number : Nat) (e : Int) (pos : PosState) (s : State) : State :=
  let s := reaim conv (onConv conv (acceptedTrack e pos) s)
  gone .markMissed (convNumber conv)
    (notify (.mark .accepted conv number (some e) (convTrack s conv).drift pos 0 0 none) s)

/-- R35: a pulse is graded as a slip; no mark and no error are named where the compartment has none. The
notice carries the kept miss count (notes/assumptions/34). -/
def slipMark (conv : Conveyance) (number : Nat) (e : Option Int) (s : State) : State :=
  let s := makeUnknown conv s
  let s := originLost conv s
  let c := convTrack s conv
  raise .markSlip (convNumber conv)
    (notify (.mark .slip conv number e c.drift .unknown c.misses 0 none) s)

/-- R33: a pulse of a conveyance that is not UNKNOWN is matched and graded, the rows in order. -/
def gradePulse (conv : Conveyance) (s : State) : State :=
  let p := (cfg s).params
  match nearestMark (marksOf (cfg s) (convComp conv)) (depthOf s conv) with
  | none => slipMark conv 0 none s
  | some (number, depth) =>
    let e := depth - depthOf s conv
    if (e.natAbs : Int) > p.suspectTol then slipMark conv number (some e) s
    else if (((convTrack s conv).drift + e).natAbs : Int) > p.offsetLimit then
      slipMark conv number (some e) s
    else if (e.natAbs : Int) ≤ p.snapTol then acceptMark conv number e .reconciled s
    else acceptMark conv number e .suspect s

/-- The record of a conveyance placed at a depth from its present depth (R45). -/
def placedTrack (now want : Int) (pos : PosState) (c : ConvTrack) : ConvTrack :=
  { c with datum := c.datum + c.drift + (want - now), drift := 0, pos := pos, misses := 0 }

/-- R45: a conveyance is placed at a depth by a find. -/
def placeConv (conv : Conveyance) (want : Int) (pos : PosState) (s : State) : State :=
  reaim conv (onConv conv (placedTrack (depthOf s conv) want pos) s)

/-- R45: the counterweight is placed by the find of a drum-1 search. -/
def placeCounterweight (d : Drum) (s : State) : State :=
  match d with
  | .d1 => placeConv .counterweight ((cfg s).params.linkSum - depthOf s .cage) .suspect s
  | .d2 => s

/-- R45: the counterweight fields of the MARK notice of a find. -/
def foundCounterweight (s : State) : Drum → Option (Int × PosState)
  | .d1 => some (s.dpt.counterweight.datum, s.dpt.counterweight.pos)
  | .d2 => none

/-- R38, R45: MARK_MISSED goes for each conveyance that a find has placed, on drum 1 for CAGE before
COUNTERWEIGHT (notes/assumptions/41). -/
def missedGone (d : Drum) (s : State) : State :=
  (drumConvs d).foldl (fun st conv => gone .markMissed (convNumber conv) st) s

/-- R131: the find is reported; the hold enters the target, which governs in MOVING. -/
def searchFound (d : Drum) (s : State) : State :=
  bringToTarget (onSearch d (fun r => { r with found := true }) s)

/-- R45: the search has found its mark: the placements, the MARK_MISSED conditions that go with them, the MARK
notice, and the report to the Motion Sequencer, in that order. -/
def findMark (d : Drum) (number : Nat) (depth : Int) (s : State) : State :=
  let conv := referenceConv d
  let s := missedGone d (placeCounterweight d (placeConv conv depth .reconciled s))
  searchFound d (notify (.mark .search conv number none 0 .reconciled 0 (convTrack s conv).datum
    (foundCounterweight s d)) s)

/-- R44: a pulse that reaches a search off standstill counts in MOVING, in a controlled stop, and wherever the
step has been exhausted, but not once a standstill has decided a failure (R131; notes/assumptions/27). -/
def searchCounts (r : SearchRec) (s : State) : Bool :=
  match s.msq.winder with
  | .running .moving => true
  | .stopping _ => s.msq.settle.isNone
  | .running .proving => lateMark
  | .running .settling => lateMark
  | .commission => lateMark
  | .parked => lateMark
  | .changeover => lateMark
  | .halted => lateMark
  | .tripped => lateMark
where
  lateMark : Bool := r.exhausted && s.msq.settle.isNone

/-- R44: the depth lies within the band of a step. -/
def inBand (r : SearchRec) (step : Nat) (depth : Int) : Bool :=
  decide (r.assumed - stepWindow step ≤ depth) && decide (depth ≤ r.assumed + stepWindow step)

/-- R44: the mark, with its depth, that a pulse taken by the search of an ACTIVE trip counts for. -/
def searchHit (t : Trip) (r : SearchRec) (s : State) : Option (Nat × Int) :=
  match nearestMark (marksOf (cfg s) (convComp t.conv)) (depthOf s t.conv) with
  | none => none
  | some mark => if searchCounts r s && inBand r t.step mark.2 then some mark else none

/-- R31, case 3: the ACTIVE SEARCH trip of which the conveyance is the reference, with its record, while
nothing has been found. -/
def searchTaking (s : State) (conv : Conveyance) : Option (Trip × SearchRec) :=
  match activeTrip s with
  | none => none
  | some t =>
    if t.kind = .search ∧ t.conv = conv then
      match searchOf s (tripDrum t) with
      | some r => if r.found then none else some (t, r)
      | none => none
    else none

/-- R31: the depths of a drum taken from its count as it stands at a pulse. -/
def readAtPulse (d : Drum) (s : State) : State := onDrum d (fun t => { t with used := t.count }) s

/-- R31: a pulse on a mark line, the cases in order; a disregarded pulse changes nothing. -/
def takePulse (comp : Compartment) (s : State) : State :=
  let conv := compConv comp
  let d := convDrum conv
  if !hasDepth s || (drumTrack s d).faultLine || atStandstill s d then s
  else match searchTaking s conv with
    | some (t, r) =>
      match searchHit t r (readAtPulse d s) with
      | some (number, depth) => findMark d number depth (readAtPulse d s)
      | none => s
    | none => if isUnknown s conv then s else gradePulse conv (readAtPulse d s)

/-! ## Fault lines (R28) -/

/-- R28: the fault line of a drum becomes asserted. Standstill left, with its reports, comes before the raise
of ENCODER_FAULT (notes/assumptions/37). -/
def faultLineRises (d : Drum) (s : State) : State :=
  if (drumTrack s d).faultLine then s
  else
    let stood := atStandstill s d
    let s := onDrum d (fun t => { t with faultLine := true, standstill := false, quiet := 0 }) s
    encoderFault d (if stood then standstillLeft d s else s)

/-- R28: the fault line of a drum clears; the next sample resets the history and is not step-tested. -/
def faultLineFalls (d : Drum) (s : State) : State :=
  if (drumTrack s d).faultLine then
    onDrum d (fun t => { t with faultLine := false, resume := true }) s
  else s

/-! ## Edges (R22) -/

/-- R22: a run of edge pairs moves the count, which stays at an end of its range. -/
def countEdges (d : Drum) (up : Bool) (pairs : Nat) (s : State) : State :=
  onDrum d (fun t => { t with
    count := if up then min countHigh (t.count + pairs) else max countLow (t.count - pairs) }) s

end Sys2Proof.Machine
end

