-- ==== Sys2Proof/Machine/Layout.lean ====
section
/-! DEFINITION. The byte layouts of what the part sends (Chapter 10): notices, frames, polls, and the
bodies of the replies to queries. -/

namespace Sys2Proof.Machine

/-! ## Records (R202) -/

/-- The 13 bytes of a trip record; `state` is the state byte. -/
def putTrip (t : Trip) (state : Nat) : List Byte :=
  put8 t.id ++ put8 (kindNumber t.kind) ++ put8 (convNumber t.conv) ++ putLevelNumber t.dest ++
    put8 t.requester ++ put8 (confsByte t.required) ++ put8 (confsByte t.held) ++ put8 state ++
    putBool t.orphaned ++ putTime t.requestedAt

/-- A trip record with the state of the trip. -/
def putTripRecord (t : Trip) : List Byte := putTrip t (tripStateNumber t.state)

/-- The byte of an action and a recovery. -/
def actionRecovery (a : Action) (r : Recovery) : Nat := actionNumber a * 16 + recoveryNumber r

/-- The time left to a retry deadline in s, rounded up, or 0xFF. -/
def retryLeft (now : Nat) (deadline : Option Nat) : Nat :=
  match deadline with
  | none => 0xFF
  | some d => max 1 ((d - now + 999) / 1000)

/-- The 13 bytes of a fault entry. -/
def putEntry (s : State) (e : FaultEntry) : List Byte :=
  put8 (protNumber e.prot + 128 * e.isHeld.toNat) ++ put8 (actionRecovery e.action e.recovery) ++
    putSet e.subjects ++ putSet (e.subjects &&& presence s e.prot) ++ putTime e.raisedAt ++
    put8 (retryLeft s.now e.deadline)

/-! ## Notices (R201, R202, R204) -/

/-- The kind code of a notice. -/
def noticeKind : Notice → Byte
  | .trip _ _ _ => 0x60
  | .winder _ _ _ _ _ => 0x61
  | .fault _ _ _ _ _ _ => 0x62
  | .station _ _ _ _ _ _ _ => 0x63
  | .signal _ _ _ _ _ _ _ _ _ => 0x64
  | .mark _ _ _ _ _ _ _ _ _ => 0x65
  | .ceiling _ _ _ _ => 0x66
  | .edit _ _ _ => 0x67
  | .store _ _ _ => 0x68

/-- Bit 0 of the flags byte of a notice. -/
def noticeBit : Notice → Bool
  | .trip _ t _ => t.orphaned
  | .winder _ _ _ _ _ => false
  | .fault _ _ _ _ _ firstOut => firstOut
  | .station _ _ _ _ _ _ att => att
  | .signal _ _ _ _ _ _ _ _ _ => false
  | .mark _ _ _ _ _ _ _ _ _ => false
  | .ceiling _ _ _ _ => false
  | .edit _ _ removed => removed.isSome
  | .store _ _ _ => false

/-- The ramp fields of a CEILING notice. -/
def putRamp (ramp : Option Ramp) (decel : Nat) : List Byte :=
  match ramp with
  | some r => put16 r.start ++ put16 r.target ++ put16 decel
  | none => put16 0xFFFF ++ put16 0xFFFF ++ put16 0

/-- The state byte of a FAULT notice. -/
def faultStateByte (cause : FaultCause) (e : FaultEntry) : Nat :=
  match cause with
  | .removed => 0
  | .raised => if e.isHeld then 2 else 1
  | .added => if e.isHeld then 2 else 1
  | .held => if e.isHeld then 2 else 1
  | .subjectGone => if e.isHeld then 2 else 1
  | .changed => if e.isHeld then 2 else 1

/-- The state byte of a TRIP notice: 0 for a removed trip. -/
def tripStateByte (cause : TripCause) (t : Trip) : Nat :=
  match cause with
  | .removed => 0
  | .admitted => tripStateNumber t.state
  | .confirmed => tripStateNumber t.state
  | .revoked => tripStateNumber t.state
  | .orphaned => tripStateNumber t.state
  | .started => tripStateNumber t.state
  | .resumed => tripStateNumber t.state
  | .suspended => tripStateNumber t.state

/-- The content of a notice after its flags byte. -/
def noticeContent : Notice → List Byte
  | .trip cause t outcome =>
    put8 (tripCauseNumber cause) ++ putTrip t (tripStateByte cause t) ++
      put8 (outcome.elim 0 tripEndNumber) ++ put8 (outcome.elim 0 tripEndDetail)
  | .winder cause before after tripId step =>
    put8 (winderCauseNumber cause) ++ put8 (winderNumber before) ++ put8 (phaseNumber before) ++
      put8 (winderNumber after) ++ put8 (phaseNumber after) ++ put8 tripId ++ put8 step
  | .fault cause reason e subject count _ =>
    put8 (faultCauseNumber cause) ++ put8 (removalReasonNumber reason) ++ put8 (protNumber e.prot) ++
      put8 (actionRecovery e.action e.recovery) ++ put8 subject ++ putSet e.subjects ++
      put8 (faultStateByte cause e) ++ putTime e.raisedAt ++ putOptTime e.deadline ++ put8 count
  | .station n before after misses gatesOpen hold _ =>
    put8 n ++ put8 (linkNumber before) ++ put8 (linkNumber after) ++ put8 misses ++
      put8 (stationStatus gatesOpen hold)
  | .signal n sig a1 a2 a3 r link gatesOpen hold =>
    put8 n ++ [sig, a1, a2, a3, resultByte r.result] ++ put8 r.id ++ put8 r.count ++
      put8 (linkNumber link) ++ put8 (stationStatus gatesOpen hold)
  | .mark cause conv number error drift pos misses datum cw =>
    put8 (markCauseNumber cause) ++ put8 (convNumber conv) ++ put8 number ++ putOpt32 error ++
      put16 drift ++ put8 (posNumber pos) ++ put8 misses ++ put32 datum ++
      put32 (cw.elim 0 (fun c => c.1)) ++ put8 (cw.elim 0 (fun c => posNumber c.2))
  | .ceiling value source ramp decel =>
    put16 value ++ put8 (sourceNumber source) ++ put8 (sourceIndex source) ++ putRamp ramp decel
  | .edit cause edits removed =>
    put8 (editCauseNumber cause) ++ put8 edits.length ++ edits.flatMap putEdit ++
      removed.elim [] putEdit
  | .store outcome check took =>
    put8 (storeEndNumber outcome) ++ put16 check.toNat ++ put16 took

/-- R200: the body of a notice, its flags byte first. -/
def noticeBody (q : Queued) : List Byte :=
  put8 ((noticeBit q.notice).toNat + 128 * q.afterLoss.toNat) ++ noticeContent q.notice

/-! ## Frames (R200) -/

/-- R173, R175, R200: a frame on the host link. -/
def frame (kind tag : Byte) (body : List Byte) : List Byte :=
  let counted := put8 body.length ++ [kind, tag] ++ body
  [0xD2, 0x4E] ++ counted ++ [frameCheck counted]

/-- R180: the frame that the transmitter is sending, or none. -/
def frameSent (h : Hlc) : Option (List Byte) :=
  match h.tx with
  | .idle => none
  | .notice q => some (frame (noticeKind q.notice) 0 (noticeBody q))
  | .reply => h.places.head?.map (fun p => frame (replyKind p.kind) p.tag p.body)

/-! ## Polls (R89, R203) -/

/-- R203: the poll of an exchange. -/
def pollFrame (x : Exchange) : List Byte :=
  let content := put8 x.station ++
    [x.result.elim 0 (fun r => r.signal), x.result.elim 0 (fun r => resultByte r.result)] ++
    put8 (x.result.elim 0 (fun r => r.id)) ++ put8 (x.result.elim 0 (fun r => r.count)) ++
    put8 x.displayId ++ put8 (x.displayState.elim 0 tripStateNumber)
  [0xA5] ++ content ++ [frameCheck content]

/-! ## GET_STATE (R107, R149, R204) -/

/-- The line set: BRK1, BRK2, DRV, ENG1, DIS1, ENG2, DIS2. -/
def lineSet (c : Cpl) : Nat := flagByte [c.brk1, c.brk2, c.drv, c.eng1, c.dis1, c.eng2, c.dis2]

/-- The value a GET_STATE reply gives for a brake watch. -/
def watchValue (now : Nat) : Watch → Int
  | .none => 0
  | .fade _ deadline => ((deadline - now : Nat) : Int)
  | .held _ moved => moved

/-- The movement under way, and the target drum, of a changeover. -/
def changeoverBytes (c : Option Changeover) : List Byte :=
  match c with
  | none => put8 0 ++ put8 0
  | some x => put8 (drumNumber x.target) ++ put8 (movementNumber x.movement)

/-- The distance to go of the current trip. -/
def currentDistance (s : State) : Option Int := (currentTrip s).bind (distanceToGo s)

/-- R204: the content of the GET_STATE reply after the result. -/
def stateContent (s : State) : List Byte :=
  let c := s.msq.ceiling
  put8 (winderNumber s.msq.winder) ++ put8 (phaseNumber s.msq.winder) ++
    put8 (settleNumber s.msq.settle) ++ put8 (s.msq.current.getD 0) ++
    put8 (dirNumber (if s.msq.current.isSome then s.msq.direction else none)) ++
    putOpt32 (currentDistance s) ++ put16 c.value ++ put8 (sourceNumber c.source) ++
    put8 (sourceIndex c.source) ++ putOpt16 c.target ++
    putRamp c.ramp (cfg s).params.controlledDecel.toNat ++ putBool s.msq.creepClamp ++
    putOptTime (s.msq.stopStart.map (fun t => s.now - t)) ++
    put8 (clutchStateNumber s.cpl.clutch1.state) ++ put8 (readingNumber s.cpl.clutch1.reading) ++
    put8 (clutchStateNumber s.cpl.clutch2.state) ++ put8 (readingNumber s.cpl.clutch2.reading) ++
    put8 (lineSet s.cpl) ++ changeoverBytes s.cpl.changeover ++
    put8 (watchNumber s.cpl.watch1) ++ put32 (watchValue s.now s.cpl.watch1) ++
    put8 (watchNumber s.cpl.watch2) ++ put32 (watchValue s.now s.cpl.watch2) ++
    put8 s.prt.entries.length

/-! ## GET_POSITIONS (R40, R204) -/

/-- A conveyance block. -/
def convBlock (s : State) (conv : Conveyance) : List Byte :=
  let c := convTrack s conv
  putOpt32 (depthKnown s conv) ++ put32 c.datum ++ put16 c.drift ++ put8 (posNumber c.pos) ++
    put8 c.misses ++ put8 (dirNumber c.dir) ++ put8 (c.expected.getD 0)

/-- The SEARCH trip of a drum that is ACTIVE or SUSPENDED. -/
def runningSearch (s : State) (d : Drum) : Option Trip :=
  s.tqm.trips.find? (fun t => decide (t.kind = .search) && decide (tripDrum t = d) && !waiting t)

/-- The search fields: step, step direction, assumed depth. -/
def searchBytes (s : State) (d : Drum) : List Byte :=
  match runningSearch s d, searchOf s d with
  | some t, some r => put8 t.step ++ put8 (dirNumber (some r.dir)) ++ put32 r.assumed
  | some t, none => put8 t.step ++ put8 0 ++ putOpt32 none
  | none, _ => put8 0 ++ put8 0 ++ putOpt32 none

/-- The second conveyance block and the link error. -/
def secondBlock (s : State) : Drum → List Byte
  | .d1 => convBlock s .counterweight ++ putOpt32 s.dpt.linkError
  | .d2 => List.replicate 18 0

/-- R204: the content of the GET_POSITIONS reply after the result. -/
def positionsContent (s : State) (d : Drum) : List Byte :=
  let t := drumTrack s d
  let known := hasDepth s
  put8 (drumNumber d) ++ put32 t.count ++
    putOpt32 (if known then some (ropeLength (cfg s).params d t.count) else none) ++
    putOpt32 (if known then some t.speed else none) ++
    put8 (flagByte [t.standstill, t.faultLine]) ++ convBlock s (referenceConv d) ++ secondBlock s d ++
    searchBytes s d

/-! ## Pages (R80, R104, R171) -/

/-- Up to four items of a list from a position counted from 1. -/
def page {α : Type} (first : Nat) (l : List α) : List α := (l.drop (first - 1)).take 4

/-- R202: the content of the GET_QUEUE reply after the result. -/
def queueContent (s : State) (first : Nat) : List Byte :=
  let p := page first s.tqm.trips
  put8 s.tqm.trips.length ++ put8 first ++ put8 p.length ++ p.flatMap putTripRecord

/-- R202: the content of the GET_FAULTS reply after the result. -/
def faultsContent (s : State) (first : Nat) : List Byte :=
  let p := page first s.prt.entries
  put8 s.prt.entries.length ++ put8 first ++ put8 p.length ++ p.flatMap (putEntry s)

/-- R202: the content of the GET_FIRST_OUT reply after the result. -/
def firstOutContent (s : State) : List Byte :=
  match s.prt.firstOut with
  | none => List.replicate 22 0
  | some f =>
    put8 1 ++ put8 (protNumber f.prot) ++ put8 f.subject ++ putTime f.raisedAt ++
      putOpt32 f.cageDepth ++ put8 (posNumber f.cagePos) ++
      putOpt32 f.cwDepth ++ put8 (posNumber f.cwPos) ++
      putOpt32 f.skipDepth ++ put8 (posNumber f.skipPos)

/-- The flags of a station entry of GET_STATIONS. -/
def stationFlags (s : State) (n : Nat) (e : Station) : Nat :=
  flagByte [e.gatesOpen, e.hold, e.result.isSome, setHas (attended s) n, setHas s.slc.path n]

/-- The volatile bytes of a station entry: link state, misses, rejoin count, flags; in COMMISSION those
of an UNHEARD station. -/
def stationVolatile (s : State) (n : Nat) : List Byte :=
  match if inCommission s then none else stationOf s n with
  | none => put8 0 ++ put8 0 ++ put8 0 ++ put8 1
  | some e => put8 (linkNumber e.link) ++ put8 e.misses ++ put8 e.rejoin ++ put8 (stationFlags s n e)

/-- R204: the ten bytes of an entry of GET_STATIONS. -/
def putStationEntry (s : State) (p : Nat × StationEntry) : List Byte :=
  put8 p.1 ++ put8 (roleNumber p.2.role) ++ putLevelNumber p.2.level ++ putMask p.2.mask ++
    stationVolatile s p.1

/-- R204: the content of the GET_STATIONS reply after the result. -/
def stationsContent (s : State) (first : Nat) : List Byte :=
  let all := (readCfg s).stations
  let p := (all.filter (fun p => decide (first ≤ p.1))).take 4
  put8 all.length ++ put8 first ++ put8 p.length ++ p.flatMap (putStationEntry s)

/-! ## GET_TRIP (R80, R204) -/

/-- The present source of ORIGIN: a station, 0xFE where it is waived, or 0. -/
def originByte (s : State) (t : Trip) : Nat :=
  if t.required.origin then
    match originOf s.tqm t.conv with
    | .outside => 0xFE
    | .atLevel _ => (originSource s t.conv).getD 0
    | .unset => 0
  else 0

/-- The time left before the pending expiry in s, or 0xFFFF. -/
def pendingLeft (s : State) (t : Trip) : Nat :=
  if waiting t && decide (t.kind ≠ .search) && decide (s.now ≤ pendingDeadline s t) then
    (pendingDeadline s t - s.now) / 1000
  else 0xFFFF

/-- R204: the content of the GET_TRIP reply after the result. -/
def tripContent (s : State) (t : Trip) : List Byte :=
  putTripRecord t ++ put8 (if t.kind = .search then t.step else 0) ++ put8 (originByte s t) ++
    put8 (if t.required.dest then (destSource s t).getD 0 else 0) ++
    put8 (if t.required.console then 0xFD else 0) ++
    put8 (if t.required.panel then (panelStation (cfg s)).getD 0 else 0) ++ put16 (pendingLeft s t)

/-! ## Other queries (R12, R20, R151, R195, R204) -/

/-- R204: the content of the GET_EDITS reply after the result. -/
def editsContent (s : State) : List Byte :=
  put8 s.pfu.staged.length ++ s.pfu.staged.flatMap putEdit

/-- R204: the content of the GET_PARAM reply after the result. -/
def paramContent (s : State) (n : Nat) (r : ParamRow) : List Byte :=
  put8 n ++ put32 (paramGet (readCfg s).params n) ++ put32 r.dflt ++ put32 r.low ++ put32 r.high

/-- The staged buffer holds an edit for the item of `e`. -/
def isStaged (s : State) (e : Edit) : Bool := s.pfu.staged.any (fun x => sameItem x e)

/-- R204: the content of the GET_LEVEL reply after the result. -/
def levelContent (s : State) (n : Nat) (e : LevelEntry) : List Byte :=
  put8 n ++ putBool e.enabled ++ putOpt32 e.cage ++ putOpt32 e.skip ++
    putOpt32 (stopDepth (readCfg s) .counterweight n) ++ putBool (isStaged s (.levelEnable n true))

/-- R204: the content of the GET_ZONE reply after the result. -/
def zoneContent (s : State) (n : Nat) : List Byte :=
  match tableGet n (readCfg s).zones with
  | none => put8 n ++ List.replicate 14 0
  | some z =>
    put8 n ++ put8 1 ++ put8 (compNumber z.comp) ++ put32 z.start ++ put32 z.range ++
      put16 z.ceiling ++ putBool z.enabled ++
      put8 (flagByte [isStaged s (.zoneCeiling n 0), isStaged s (.zoneEnable n true)])

/-- A set of codes in one byte. -/
def codeSet (codes : List Nat) : Nat := (codes.map (fun c => 2 ^ (c - 1))).sum

/-- R204: the content of the GET_PROTECTION reply after the result. -/
def protectionContent (s : State) (p : Protection) : List Byte :=
  let r := protRow (readCfg s) p
  put8 (protNumber p) ++ put8 (actionRecovery r.action r.recovery) ++ put8 r.retryTime ++
    put8 (codeSet ((actionsAllowed p).map actionNumber)) ++
    put8 (codeSet ((recoveriesAllowed p).map recoveryNumber)) ++ putBool (entryOf s p).isSome ++
    putSet (presence s p)

end Sys2Proof.Machine
end

