-- ==== Sys2Proof/Machine/Field.lean ====
section
/-! DEFINITION. The field lines and the station line as commands: samples, standstill, marks, edges and
fault lines (Chapter 2), polls and answers (Chapter 4), clutch readings (R136, R139, R143), ultimate
limits and slack ropes (R154, R155). -/

namespace Sys2Proof.Machine

/-! ## Clutch readings (R136, R139, R143) -/

/-- R139: the movement that a drum's clutch is making and that its reading now completes. -/
def completedMovement (s : State) (d : Drum) : Option (Drum × Movement) :=
  match s.cpl.changeover with
  | none => none
  | some c =>
    match c.movement with
    | some .release =>
      if movedDrum c.target .release = d ∧ (clutchOf s d).reading = .atFree then
        some (c.target, .release) else none
    | some .engage =>
      if movedDrum c.target .engage = d ∧ (clutchOf s d).reading = .atEngaged then
        some (c.target, .engage) else none
    | none => none

/-- R139: a completed movement ends, and the changeover goes on. -/
def completeMovement (c : Drum × Movement) (s : State) : State :=
  match c.2 with
  | .release => releaseDone c.1 s
  | .engage => engageDone c.1 s

/-- R143: the mismatch test of a drum's clutch. -/
def testClutch (d : Drum) (s : State) : State :=
  report .clutchMismatch (drumNumber d) (contradicts (clutchOf s d)) s

/-- R136: a clutch takes a new reading; a movement may complete by it, and the mismatch test is made. -/
def changeReading (d : Drum) (r : ClutchReading) (s : State) : State :=
  let s := onClutch d (fun c => { c with reading := r }) s
  match completedMovement s d with
  | some c => testClutch d (completeMovement c s)
  | none => testClutch d s

/-! ## Ultimate limits and slack ropes (R154, R155) -/

/-- R154: the line reading of an ultimate limit circuit written. -/
def setUltimate (comp : Compartment) (opened : Bool) (s : State) : State :=
  s.onPrt (fun x => match comp with
    | .c => { x with ultC := opened }
    | .w => { x with ultW := opened }
    | .s => { x with ultS := opened })

/-- R155: the line reading of a slack-rope line written. -/
def setSlack (comp : Compartment) (slack : Bool) (s : State) : State :=
  s.onPrt (fun x => match comp with
    | .c => { x with slkC := slack }
    | .w => { x with slkW := slack }
    | .s => { x with slkS := slack })

/-- R154: the reading of an ultimate limit line changes. -/
def changeUltimate (comp : Compartment) (opened : Bool) (s : State) : State :=
  report .ultimateLimit (compNumber comp) opened (setUltimate comp opened s)

/-- R155: the reading of a slack-rope line changes. -/
def changeSlack (comp : Compartment) (slack : Bool) (s : State) : State :=
  report .slackRope (compNumber comp) slack (setSlack comp slack s)

/-! ## The commands -/

/-- STATION_POLL (R89). -/
def execStationPoll (s : State) : Host.Outcome State Fault Refusal := whenPowered sendPoll s

/-- STATION_ANSWER (R90). -/
def execStationAnswer (a : StationAnswer) (s : State) : Host.Outcome State Fault Refusal :=
  whenPowered (receiveAnswer a) s

/-- ANSWER_WINDOW_EXPIRY (R92). -/
def execAnswerWindowExpiry (s : State) : Host.Outcome State Fault Refusal := whenPowered windowEnds s

/-- DRUM_SAMPLE (R22). -/
def execDrumSample (d : Drum) (s : State) : Host.Outcome State Fault Refusal :=
  whenPowered (sampleDrum d) s

/-- STANDSTILL_REACHED (R26). -/
def execStandstillReached (d : Drum) (s : State) : Host.Outcome State Fault Refusal :=
  whenPowered (reachStandstill d) s

/-- MARK_PULSE (R31). -/
def execMarkPulse (comp : Compartment) (s : State) : Host.Outcome State Fault Refusal :=
  whenPowered (takePulse comp) s

/-- ENCODER_FAULT_LINE_ASSERT (R28). -/
def execEncoderFaultLineAssert (d : Drum) (s : State) : Host.Outcome State Fault Refusal :=
  whenPowered (faultLineRises d) s

/-- ENCODER_FAULT_LINE_CLEAR (R28). -/
def execEncoderFaultLineClear (d : Drum) (s : State) : Host.Outcome State Fault Refusal :=
  whenPowered (faultLineFalls d) s

/-- CLUTCH_READING_CHANGE (R136). -/
def execClutchReadingChange (d : Drum) (r : ClutchReading) (s : State) :
    Host.Outcome State Fault Refusal :=
  whenPowered (changeReading d r) s

/-- ULTIMATE_LIMIT_CHANGE (R154). -/
def execUltimateLimitChange (comp : Compartment) (opened : Bool) (s : State) :
    Host.Outcome State Fault Refusal :=
  whenPowered (changeUltimate comp opened) s

/-- SLACK_ROPE_CHANGE (R155). -/
def execSlackRopeChange (comp : Compartment) (slack : Bool) (s : State) :
    Host.Outcome State Fault Refusal :=
  whenPowered (changeSlack comp slack) s

/-- ENCODER_EDGE (R22). -/
def execEncoderEdge (d : Drum) (up : Bool) (pairs : Nat) (s : State) :
    Host.Outcome State Fault Refusal :=
  whenPowered (countEdges d up pairs) s

end Sys2Proof.Machine
end

