-- ==== Sys2Proof/Machine/Queries.lean ====
section
/-! DEFINITION. The queries (section 8.7): what their owners answer, and their meanings as commands. A
query changes nothing but the receive buffer that holds its reply (R186). -/

namespace Sys2Proof.Machine

/-- The answer of a query that a range check precedes. -/
def answerIf (ok : Bool) (content : List Byte) : Answer :=
  if ok then accept content id else refuse .outOfRange

/-- R107: the owner's answer to GET_STATE. -/
def ownGetState (_body : List Byte) (s : State) : Answer := accept (stateContent s) id

/-- R40: the owner's answer to GET_POSITIONS. -/
def ownGetPositions (body : List Byte) (s : State) : Answer :=
  match drumOf (u8At body 0) with
  | none => refuse .outOfRange
  | some d => accept (positionsContent s d) id

/-- R80: the owner's answer to GET_QUEUE. -/
def ownGetQueue (body : List Byte) (s : State) : Answer :=
  answerIf (decide (1 ≤ u8At body 0) && decide (u8At body 0 ≤ 16)) (queueContent s (u8At body 0))

/-- R80: the owner's answer to GET_TRIP; id 0x00 is no trip of the queue (notes/assumptions/38). -/
def ownGetTrip (body : List Byte) (s : State) : Answer :=
  match tripById s (u8At body 0) with
  | none => refuse .noSuchTrip
  | some t => accept (tripContent s t) id

/-- R171: the owner's answer to GET_FAULTS. -/
def ownGetFaults (body : List Byte) (s : State) : Answer :=
  answerIf (decide (1 ≤ u8At body 0) && decide (u8At body 0 ≤ 17)) (faultsContent s (u8At body 0))

/-- R171: the owner's answer to GET_FIRST_OUT. -/
def ownGetFirstOut (_body : List Byte) (s : State) : Answer := accept (firstOutContent s) id

/-- R104: the owner's answer to GET_STATIONS. -/
def ownGetStations (body : List Byte) (s : State) : Answer :=
  answerIf (decide (1 ≤ u8At body 0) && decide (u8At body 0 ≤ 24)) (stationsContent s (u8At body 0))

/-- R20: the owner's answer to GET_EDITS. -/
def ownGetEdits (_body : List Byte) (s : State) : Answer := accept (editsContent s) id

/-- R195: the owner's answer to GET_PARAM. -/
def ownGetParam (body : List Byte) (s : State) : Answer :=
  match paramRow (u8At body 0) with
  | none => refuse .outOfRange
  | some r => accept (paramContent s (u8At body 0) r) id

/-- R12: the owner's answer to GET_LEVEL. -/
def ownGetLevel (body : List Byte) (s : State) : Answer :=
  if u8At body 0 > 39 then refuse .outOfRange
  else match tableGet (u8At body 0) (readCfg s).levels with
    | none => refuse .noSuchLevel
    | some e => accept (levelContent s (u8At body 0) e) id

/-- R12: the owner's answer to GET_ZONE. -/
def ownGetZone (body : List Byte) (s : State) : Answer :=
  answerIf (decide (1 ≤ u8At body 0) && decide (u8At body 0 ≤ 24)) (zoneContent s (u8At body 0))

/-- R151: the owner's answer to GET_PROTECTION. -/
def ownGetProtection (body : List Byte) (s : State) : Answer :=
  match protOfNumber (u8At body 0) with
  | none => refuse .outOfRange
  | some p => accept (protectionContent s p) id

/-! ## The commands -/

/-- GET_STATE (R107). -/
def execGetState (tag : Byte) (body : List Byte) (s : State) : Host.Outcome State Fault Refusal :=
  hostRequest 0x20 tag body ownGetState s

/-- GET_POSITIONS (R40). -/
def execGetPositions (tag : Byte) (body : List Byte) (s : State) : Host.Outcome State Fault Refusal :=
  hostRequest 0x21 tag body ownGetPositions s

/-- GET_QUEUE (R80). -/
def execGetQueue (tag : Byte) (body : List Byte) (s : State) : Host.Outcome State Fault Refusal :=
  hostRequest 0x22 tag body ownGetQueue s

/-- GET_TRIP (R80). -/
def execGetTrip (tag : Byte) (body : List Byte) (s : State) : Host.Outcome State Fault Refusal :=
  hostRequest 0x23 tag body ownGetTrip s

/-- GET_FAULTS (R171). -/
def execGetFaults (tag : Byte) (body : List Byte) (s : State) : Host.Outcome State Fault Refusal :=
  hostRequest 0x24 tag body ownGetFaults s

/-- GET_FIRST_OUT (R171). -/
def execGetFirstOut (tag : Byte) (body : List Byte) (s : State) : Host.Outcome State Fault Refusal :=
  hostRequest 0x25 tag body ownGetFirstOut s

/-- GET_STATIONS (R104). -/
def execGetStations (tag : Byte) (body : List Byte) (s : State) : Host.Outcome State Fault Refusal :=
  hostRequest 0x26 tag body ownGetStations s

/-- GET_EDITS (R20). -/
def execGetEdits (tag : Byte) (body : List Byte) (s : State) : Host.Outcome State Fault Refusal :=
  hostRequest 0x27 tag body ownGetEdits s

/-- GET_PARAM (R195). -/
def execGetParam (tag : Byte) (body : List Byte) (s : State) : Host.Outcome State Fault Refusal :=
  hostRequest 0x28 tag body ownGetParam s

/-- GET_LEVEL (R12). -/
def execGetLevel (tag : Byte) (body : List Byte) (s : State) : Host.Outcome State Fault Refusal :=
  hostRequest 0x29 tag body ownGetLevel s

/-- GET_ZONE (R12). -/
def execGetZone (tag : Byte) (body : List Byte) (s : State) : Host.Outcome State Fault Refusal :=
  hostRequest 0x2A tag body ownGetZone s

/-- GET_PROTECTION (R151). -/
def execGetProtection (tag : Byte) (body : List Byte) (s : State) : Host.Outcome State Fault Refusal :=
  hostRequest 0x2B tag body ownGetProtection s

end Sys2Proof.Machine
end

