-- ==== Sys2Proof/Machine/Commit.lean ====
section
/-! DEFINITION. COMMIT: the ten checks on the working configuration (R196), and what a COMMIT that passes
them does to each block (R197, R24, R54, R172, R84). -/

namespace Sys2Proof.Machine

/-! ## Items in ascending index -/

/-- The first failing item: `bad` gives the item index of a failure. -/
def firstBad {α : Type} (bad : α → Option Nat) : List α → Option Nat
  | [] => none
  | a :: rest =>
    match bad a with
    | some i => some i
    | none => firstBad bad rest

/-- The pairs of numbered depths that do not increase, by the number of the later one; `gap` is the least
distance exceeded by a good pair. -/
def firstCrowded (gap : Int) : Option Int → List (Nat × Int) → Option Nat
  | _, [] => none
  | none, (_, d) :: rest => firstCrowded gap (some d) rest
  | some prev, (n, d) :: rest => if d > prev + gap then firstCrowded gap (some d) rest else some n

/-- The lower of two item indices, either of which may be absent. -/
def lowerIndex : Option Nat → Option Nat → Option Nat
  | none, b => b
  | some a, none => some a
  | some a, some b => some (min a b)

/-! ## The checks (R196) -/

/-- Check 1: the scales are set. -/
def checkScales (c : Configuration) : Option Nat :=
  if c.params.counts1 = 0 then some 1 else if c.params.counts2 = 0 then some 2 else none

/-- The stop depths that the levels hold for a conveyance. -/
def stopsOf (c : Configuration) (conv : Conveyance) : List (Nat × Int) :=
  c.levels.filterMap (fun p => (entryStop p.2 conv).map (fun d => (p.1, d)))

/-- Check 2: stop depths strictly increase with level number, per compartment. -/
def checkStops (c : Configuration) : Option Nat :=
  lowerIndex (firstCrowded 0 none (stopsOf c .cage)) (firstCrowded 0 none (stopsOf c .skip))

/-- The conveyances, in the order of their numbers. -/
def allConveyances : List Conveyance := [.cage, .counterweight, .skip]

/-- A conveyance whose top limit is not below its bottom limit, by its number. -/
def badLimits (c : Configuration) (conv : Conveyance) : Option Nat :=
  if (limitsOf c.params conv).1 < (limitsOf c.params conv).2 then none else some (convNumber conv)

/-- A stop depth that lies beyond its conveyance's travel limits. -/
def stopBeyond (c : Configuration) (conv : Conveyance) (stop : Option Int) : Bool :=
  stop.any (fun d => beyondLimit c conv d)

/-- Check 3: limit pairs, then stop depths within limits. -/
def checkLimits (c : Configuration) : Option Nat :=
  match firstBad (badLimits c) allConveyances with
  | some i => some i
  | none => firstBad (fun p : Nat × LevelEntry =>
      if stopBeyond c .cage p.2.cage || stopBeyond c .skip p.2.skip then some (64 + p.1) else none)
      c.levels

/-- Check 4: derived counterweight depths within limits. -/
def checkCounterweight (c : Configuration) : Option Nat :=
  firstBad (fun p : Nat × LevelEntry =>
    if stopBeyond c .counterweight (stopDepth c .counterweight p.1) then some p.1 else none) c.levels

/-- Check 5 for one compartment: marks increase, lie more than 2 × SUSPECT_TOL apart, and lie within the
travel limits; `base` is 16 times the compartment. -/
def checkMarksOf (c : Configuration) (comp : Compartment) (base : Nat) : Option Nat :=
  (lowerIndex (firstCrowded (2 * c.params.suspectTol) none (marksOf c comp))
    (firstBad (fun p : Nat × Int =>
      if beyondLimit c (compConv comp) p.2 then some p.1 else none) (marksOf c comp))).map
    (fun n => base + n)

/-- Check 5. -/
def checkMarks (c : Configuration) : Option Nat :=
  match checkMarksOf c .c 0 with
  | some i => some i
  | none =>
    match checkMarksOf c .w 16 with
    | some i => some i
    | none => checkMarksOf c .s 32

/-- Check 6: SNAP_TOL is less than SUSPECT_TOL. -/
def checkTolerances (c : Configuration) : Option Nat :=
  if c.params.snapTol < c.params.suspectTol then none else some 0

/-- Rows numbered consecutively from `n`, distances strictly increasing and ceilings not decreasing from
the row before. -/
def rowsInOrder : Nat → Option RetardRow → Table RetardRow → Bool
  | _, _, [] => true
  | n, none, (k, r) :: rest => decide (k = n) && rowsInOrder (n + 1) (some r) rest
  | n, some q, (k, r) :: rest =>
    decide (k = n) && decide (q.distance < r.distance) && decide (q.ceiling ≤ r.ceiling) &&
      rowsInOrder (n + 1) (some r) rest

/-- Check 7: the retard tables. -/
def checkRetard (c : Configuration) : Option Nat :=
  if c.retard1.isEmpty || !rowsInOrder 1 none c.retard1 then some 1
  else if c.retard2.isEmpty || !rowsInOrder 1 none c.retard2 then some 2
  else none

/-- Check 8: every zone lies within the travel limits of its compartment's conveyance. -/
def checkZones (c : Configuration) : Option Nat :=
  firstBad (fun p : Nat × ZoneEntry =>
    let limits := limitsOf c.params (compConv p.2.comp)
    if p.2.start < limits.1 ∨ p.2.start + p.2.range > limits.2 then some p.1 else none) c.zones

/-- Two stations clash: both are CAGE_PANEL, or they serve the same level for the same conveyance. -/
def stationsClash (a b : StationEntry) : Bool :=
  (decide (a.role = .cagePanel) && decide (b.role = .cagePanel)) ||
    (decide (roleConv a.role = roleConv b.role) && decide (a.level = b.level) && a.level.isSome)

/-- The station names a level that is not defined. -/
def levelUndefined (c : Configuration) (e : StationEntry) : Bool :=
  !decide (e.role = .cagePanel) &&
    (match e.level with
      | none => true
      | some l => (tableGet l c.levels).isNone)

/-- Check 9, the stations in ascending number, each against those before it (notes/assumptions/20). -/
def checkStationsFrom (c : Configuration) : List StationEntry → Table StationEntry → Option Nat
  | _, [] => none
  | seen, (n, e) :: rest =>
    if levelUndefined c e || seen.any (stationsClash e) then some n
    else checkStationsFrom c (e :: seen) rest

/-- Check 10: the base speeds. -/
def checkSpeeds (c : Configuration) : Option Nat :=
  if c.params.personnelSpeed > 1600 then some 1
  else if c.params.materialSpeed > 1800 then some 2
  else if c.params.rockSpeed > 2000 then some 3
  else if c.params.creepSpeed ≥ c.params.inspectSpeed then some 4
  else none

/-- The checks of R196 with their numbers, in order. -/
def commitChecks : List (Nat × (Configuration → Option Nat)) :=
  [(1, checkScales), (2, checkStops), (3, checkLimits), (4, checkCounterweight), (5, checkMarks),
   (6, checkTolerances), (7, checkRetard), (8, checkZones),
   (9, fun c => checkStationsFrom c [] c.stations), (10, checkSpeeds)]

/-- The first failing check and its item index, of the checks given. -/
def firstFailure (c : Configuration) : List (Nat × (Configuration → Option Nat)) → Option (Nat × Nat)
  | [] => none
  | (n, check) :: rest =>
    match check c with
    | some i => some (n, i)
    | none => firstFailure c rest

/-- R196: the first failing check of a configuration. -/
def commitFailure (c : Configuration) : Option (Nat × Nat) := firstFailure c commitChecks

/-! ## Positions (R24, R54, R192, R197) -/

/-- R192: two configurations carry the same positional basis. -/
def sameBasis (a b : Configuration) : Bool :=
  decide (a.params.counts1 = b.params.counts1) && decide (a.params.counts2 = b.params.counts2) &&
  decide (a.params.cageBase = b.params.cageBase) && decide (a.params.cwBase = b.params.cwBase) &&
  decide (a.params.skipBase = b.params.skipBase) && decide (a.params.linkSum = b.params.linkSum) &&
  decide (a.marksC = b.marksC) && decide (a.marksW = b.marksW) && decide (a.marksS = b.marksS)

/-- R192, R197: the configuration taken over keeps the positions of the one before it. -/
def keepsPositions (old : Option Configuration) (new : Configuration) : Bool :=
  match old with
  | none => false
  | some o => sameBasis o new

/-- R24: the record of a conveyance after a COMMIT. -/
def committedTrack (keep : Bool) (c : ConvTrack) : ConvTrack :=
  if keep then { c with expected := none, aimDue := true } else ConvTrack.fresh

/-- R24: the record of a drum after a COMMIT: the speed recomputed from the history with the new
scale, while the fault line is asserted too (notes/assumptions/43). -/
def committedDrum (p : Params) (d : Drum) (t : DrumTrack) : DrumTrack :=
  { t with speed := historySpeed p d t.history }

/-- R24: the Depth Tracker after a COMMIT. -/
def commitDepth (keep : Bool) (s : State) : State :=
  let p := (cfg s).params
  s.onDpt (fun x => {
    drum1 := committedDrum p .d1 x.drum1
    drum2 := committedDrum p .d2 x.drum2
    cage := committedTrack keep x.cage
    counterweight := committedTrack keep x.counterweight
    skip := committedTrack keep x.skip
    linkError := none })

/-- R54: the origin status of a conveyance set afresh. -/
def freshOrigin (conv : Conveyance) (s : State) : State :=
  setOrigin conv (if atStandstill s (convDrum conv) then originHere s conv else .unset) s

/-! ## The active fault list (R172) -/

/-- R172: the entry as its new row leaves it, before the notice. It takes the row's RETRY_TIME too, a running
timer standing as it is (notes/assumptions/36). -/
def alignedEntry (s : State) (row : ProtRow) (e : FaultEntry) : FaultEntry :=
  let now := presence s e.prot
  let e' := { e with action := row.action, recovery := row.recovery, retryTime := row.retryTime }
  let held := decide (e.subjects &&& now = 0)
  match row.recovery with
  | .self => { e' with subjects := e.subjects &&& now, isHeld := false, deadline := none }
  | .latched => { e' with isHeld := held, deadline := none }
  | .retry => { e' with
      isHeld := held
      deadline := if held then (match e.deadline with
        | some t => some t
        | none => retryDeadline s.now e') else none }

/-- R172: one entry is brought into line with its row: removed, or changed in its place. Only an entry that
stays takes the row's action and recovery; one that is removed keeps those it had. -/
def alignEntry (e : FaultEntry) (s : State) : State :=
  let row := protRow (cfg s) e.prot
  let e' := alignedEntry s row e
  if row.action = .off then takeOut .config e 0 s
  else if row.recovery = .self ∧ e'.subjects = 0 then
    takeOut .config { e with subjects := e'.subjects } 0 s
  else if row.action = e.action ∧ row.recovery = e.recovery then
    setEntries (replaceEntry e' s.prt.entries) s
  else changeEntry .changed e' 0 s

/-- R172: MARK_MISSED of one conveyance taken afresh from its miss count. A subject present without being
in an entry is raised, one that is absent is handled as a gone report (notes/assumptions/31). -/
def refreshMissed (conv : Conveyance) (s : State) : State :=
  let n := convNumber conv
  if ((convTrack s conv).misses : Int) ≥ (cfg s).params.missLimit then
    if isPresent s .markMissed n then
      if (entryOf s .markMissed).any (fun e => setHas e.subjects n) then s else raise .markMissed n s
    else present .markMissed n s
  else gone .markMissed n s

/-- R172: the list passes from holding no CREEP entry to holding one. -/
def clampOnIfNew (before : List FaultEntry) (s : State) : State :=
  if !holdsAction .creep before && holdsAction .creep s.prt.entries then setClamp true s else s

/-- R172: the withdraw-all request for an entry whose action has become EMERGENCY while the list held no
EMERGENCY entry before. -/
def withdrawIfNew (before : List FaultEntry) (s : State) : State :=
  if !holdsAction .emergency before && holdsAction .emergency s.prt.entries then withdrawAll s else s

/-- R172: the Protection Unit at a COMMIT: each entry in list order, then the reports, then MARK_MISSED of
CAGE, COUNTERWEIGHT and SKIP in that order (notes/assumptions/31). -/
def commitProtections (s : State) : State :=
  let before := s.prt.entries
  let s := s.onPrt (fun x => { x with missedOff := false })
  let s := withdrawIfNew before (before.foldl (fun st e => alignEntry e st) s)
  let s := settleList before (clampOnIfNew before s)
  allConveyances.foldl (fun st conv => refreshMissed conv st) s

/-! ## The whole (R197) -/

/-- R121: the winder enters PARKED with cause COMMIT, and passes at once into TRIPPED if an EMERGENCY
entry stands. -/
def commitWinder (s : State) : State :=
  let s := applyStaged (enterParked .commit s)
  if holdsAction .emergency s.prt.entries then
    setCeiling Ceiling.idle (setWinder .tripped .emergency s)
  else s

/-- R197: a COMMIT that has passed every check, in the order of its steps. -/
def putConfiguration (c : Configuration) (s : State) : State :=
  let keep := keepsPositions s.cfs.inForce c
  let s := s.onCfs (fun x => { x with inForce := some c, working := none })
  let s := freshOrigin .skip (freshOrigin .cage (commitDepth keep s))
  (commitWinder (commitProtections s)).onSlc (fun _ => Slc.fresh c.stations)

end Sys2Proof.Machine
end

