-- ==== Sys2Proof/Machine/Commissioning.lean ====
section
/-! DEFINITION. The commissioning requests (R151, R156, R194 to R197): what their owners answer, and their
meanings as commands. -/

namespace Sys2Proof.Machine

/-! ## The checks that all of them share (R194) -/

/-- R194: BUSY during a store write, WRONG_STATE outside COMMISSION, then the request's own answer. -/
def inCommissioning (s : State) (own : Answer) : Answer :=
  if writing s then refuse .busy else if !inCommission s then refuse .wrongState else own

/-- The working configuration changed. -/
def onWorking (f : Configuration → Configuration) (s : State) : State :=
  s.onCfs (fun c => { c with working := c.working.map f })

/-- An accepted commissioning request that changes the working configuration alone. -/
def acceptWorking (f : Configuration → Configuration) : Answer := accept [] (onWorking f)

/-- A value lies in a range, both ends included. -/
def within (low high x : Int) : Bool := decide (low ≤ x) && decide (x ≤ high)

/-- A depth of the configuration: −3,000 to 400,000 cm. -/
def depthInRange (x : Int) : Bool := within (-3000) 400000 x

/-- A depth that may be absent. -/
def optDepthInRange (x : Option Int) : Bool := x.all depthInRange

/-- R198: a PUT request's operation byte: 0 removes, 1 puts, any other value names nothing. `item` is the
item the request names, none where it names none. -/
def putOrRemove {α : Type} (op : Nat) (item : Option α) (remove : α → Configuration → Configuration)
    (put : α → Option (Configuration → Configuration)) : Answer :=
  match item with
  | none => refuse .outOfRange
  | some a =>
    match op with
    | 0 => acceptWorking (remove a)
    | 1 =>
      match put a with
      | none => refuse .outOfRange
      | some f => acceptWorking f
    | _ => refuse .outOfRange

/-- R198: a yes/no field. -/
def boolAt (b : List Byte) (i : Nat) : Option Bool :=
  match u8At b i with
  | 0 => some false
  | 1 => some true
  | _ => none

/-- A number field that must lie in a range. -/
def numberAt (b : List Byte) (i low high : Nat) : Option Nat :=
  if low ≤ u8At b i ∧ u8At b i ≤ high then some (u8At b i) else none

/-! ## SET_PARAM (R195) -/

/-- R195: the owner's answer to SET_PARAM. -/
def ownSetParam (body : List Byte) (s : State) : Answer :=
  inCommissioning s
    (match paramRow (u8At body 0) with
      | none => refuse .outOfRange
      | some r =>
        if within r.low r.high (s32At body 1) then
          acceptWorking (fun c => { c with params := paramSet c.params (u8At body 0) (s32At body 1) })
        else refuse .outOfRange)

/-! ## PUT_LEVEL, PUT_ZONE, PUT_RETARD_ROW, PUT_MARK, PUT_STATION (R194) -/

/-- The level entry that a PUT_LEVEL body holds, or none where its own checks fail. -/
def levelIn (b : List Byte) : Option LevelEntry :=
  match boolAt b 2 with
  | none => none
  | some on =>
    let e : LevelEntry := ⟨on, optS32At b 3, optS32At b 7⟩
    if optDepthInRange e.cage && optDepthInRange e.skip && (e.cage.isSome || e.skip.isSome) then some e
    else none

/-- R194: the owner's answer to PUT_LEVEL. -/
def ownPutLevel (body : List Byte) (s : State) : Answer :=
  inCommissioning s (putOrRemove (u8At body 1) (numberAt body 0 0 39)
    (fun n c => { c with levels := tableDel n c.levels })
    (fun n => (levelIn body).map (fun e c => { c with levels := tablePut n e c.levels })))

/-- The zone entry that a PUT_ZONE body holds, or none where its own checks fail. -/
def zoneIn (b : List Byte) : Option ZoneEntry :=
  match compOf (u8At b 2), boolAt b 13 with
  | some comp, some on =>
    if depthInRange (s32At b 3) && within 1 400000 (s32At b 7) && decide (u16At b 11 ≤ 2000) then
      some ⟨comp, s32At b 3, s32At b 7, u16At b 11, on⟩
    else none
  | some _, none => none
  | none, _ => none

/-- R194: the owner's answer to PUT_ZONE. -/
def ownPutZone (body : List Byte) (s : State) : Answer :=
  inCommissioning s (putOrRemove (u8At body 1) (numberAt body 0 1 24)
    (fun n c => { c with zones := tableDel n c.zones })
    (fun n => (zoneIn body).map (fun e c => { c with zones := tablePut n e c.zones })))

/-- A drum's retard table changed. -/
def onRetard (d : Drum) (f : Table RetardRow → Table RetardRow) (c : Configuration) : Configuration :=
  match d with
  | .d1 => { c with retard1 := f c.retard1 }
  | .d2 => { c with retard2 := f c.retard2 }

/-- The row that a PUT_RETARD_ROW body holds, or none where its own checks fail. -/
def rowIn (b : List Byte) : Option RetardRow :=
  if within 1 400000 (s32At b 3) && decide (u16At b 7 ≤ 2000) then some ⟨s32At b 3, u16At b 7⟩ else none

/-- The drum and row that a body names. -/
def retardItem (b : List Byte) : Option (Drum × Nat) :=
  match drumOf (u8At b 0), numberAt b 1 1 8 with
  | some d, some n => some (d, n)
  | some _, none => none
  | none, _ => none

/-- R194: the owner's answer to PUT_RETARD_ROW. -/
def ownPutRetardRow (body : List Byte) (s : State) : Answer :=
  inCommissioning s (putOrRemove (u8At body 2) (retardItem body)
    (fun i => onRetard i.1 (tableDel i.2))
    (fun i => (rowIn body).map (fun r => onRetard i.1 (tablePut i.2 r))))

/-- A compartment's mark table changed. -/
def onMarks (comp : Compartment) (f : Table Int → Table Int) (c : Configuration) : Configuration :=
  match comp with
  | .c => { c with marksC := f c.marksC }
  | .w => { c with marksW := f c.marksW }
  | .s => { c with marksS := f c.marksS }

/-- The compartment and mark that a body names. -/
def markItem (b : List Byte) : Option (Compartment × Nat) :=
  match compOf (u8At b 0), numberAt b 1 1 12 with
  | some comp, some n => some (comp, n)
  | some _, none => none
  | none, _ => none

/-- R194: the owner's answer to PUT_MARK. -/
def ownPutMark (body : List Byte) (s : State) : Answer :=
  inCommissioning s (putOrRemove (u8At body 2) (markItem body)
    (fun i => onMarks i.1 (tableDel i.2))
    (fun i => if depthInRange (s32At body 3) then some (onMarks i.1 (tablePut i.2 (s32At body 3)))
      else none))

/-- The level field of a PUT_STATION body: present, 0 to 39, for every role but CAGE_PANEL, for which it
is absent; none where it is neither. -/
def stationLevel (role : Role) (level : Nat) : Option (Option Nat) :=
  match role with
  | .cagePanel => if level = 0xFF then some none else none
  | .bank => placed
  | .level => placed
  | .loading => placed
  | .tip => placed
where
  placed : Option (Option Nat) := if level ≤ 39 then some (some level) else none

/-- The station entry that a PUT_STATION body holds, or none where its own checks fail. -/
def stationIn (b : List Byte) : Option StationEntry :=
  match roleOf (u8At b 2), maskAt b 4 with
  | some role, some mask => (stationLevel role (u8At b 3)).map (fun level => ⟨role, level, mask⟩)
  | some _, none => none
  | none, _ => none

/-- R194: the owner's answer to PUT_STATION. -/
def ownPutStation (body : List Byte) (s : State) : Answer :=
  inCommissioning s (putOrRemove (u8At body 1) (numberAt body 0 1 24)
    (fun n c => { c with stations := tableDel n c.stations })
    (fun n => (stationIn body).map (fun e c => { c with stations := tablePut n e c.stations })))

/-! ## SET_PROTECTION (R151, R156) -/

/-- The row that a SET_PROTECTION body holds for a protection, or none where the row does not allow
it. -/
def protRowIn (p : Protection) (b : List Byte) : Option ProtRow :=
  match actionOf (u8At b 1), recoveryOf (u8At b 2) with
  | some a, some r =>
    if a ∈ actionsAllowed p ∧ r ∈ recoveriesAllowed p ∧ 1 ≤ u8At b 3 ∧ u8At b 3 ≤ 60 then
      some ⟨a, r, u8At b 3⟩
    else none
  | some _, none => none
  | none, _ => none

/-- R156: OFF written into the MARK_MISSED row takes effect in the list at once; another action written
there ends the treatment as OFF. -/
def missedRowWritten (a : Action) (s : State) : State :=
  let s := s.onPrt (fun x => { x with missedOff := decide (a = .off) })
  match a, entryOf s .markMissed with
  | .off, some e => removeEntry .config e 0 s
  | .off, none => s
  | .emergency, _ => s
  | .controlled, _ => s
  | .creep, _ => s
  | .report, _ => s

/-- R151, R156: a row accepted by SET_PROTECTION. -/
def writeProtection (p : Protection) (r : ProtRow) (s : State) : State :=
  let s := onWorking (setProtRow p r) s
  if p = .markMissed then missedRowWritten r.action s else s

/-- R151: the owner's answer to SET_PROTECTION. -/
def ownSetProtection (body : List Byte) (s : State) : Answer :=
  inCommissioning s
    (match protOfNumber (u8At body 0) with
      | none => refuse .outOfRange
      | some p =>
        match protRowIn p body with
        | none => refuse .outOfRange
        | some r => accept [] (writeProtection p r))

/-! ## CLEAR_CONFIG and COMMIT (R194, R196, R197) -/

/-- R194: the owner's answer to CLEAR_CONFIG. -/
def ownClearConfig (_body : List Byte) (s : State) : Answer :=
  inCommissioning s (acceptWorking (fun _ => defaultConfiguration))

/-- R196, R197: the owner's answer to COMMIT. -/
def ownCommit (_body : List Byte) (s : State) : Answer :=
  inCommissioning s
    (match commitFailure (workingCfg s) with
      | some (check, item) => ⟨[resultByte .invalidConfig] ++ put8 check ++ put8 item, id⟩
      | none => accept [] (putConfiguration (workingCfg s)))

/-! ## The commands -/

/-- SET_PARAM (R195). -/
def execSetParam (tag : Byte) (body : List Byte) (s : State) : Host.Outcome State Fault Refusal :=
  hostRequest 0x01 tag body ownSetParam s

/-- PUT_LEVEL (R194). -/
def execPutLevel (tag : Byte) (body : List Byte) (s : State) : Host.Outcome State Fault Refusal :=
  hostRequest 0x02 tag body ownPutLevel s

/-- PUT_ZONE (R194). -/
def execPutZone (tag : Byte) (body : List Byte) (s : State) : Host.Outcome State Fault Refusal :=
  hostRequest 0x03 tag body ownPutZone s

/-- PUT_RETARD_ROW (R194). -/
def execPutRetardRow (tag : Byte) (body : List Byte) (s : State) : Host.Outcome State Fault Refusal :=
  hostRequest 0x04 tag body ownPutRetardRow s

/-- PUT_MARK (R194). -/
def execPutMark (tag : Byte) (body : List Byte) (s : State) : Host.Outcome State Fault Refusal :=
  hostRequest 0x05 tag body ownPutMark s

/-- PUT_STATION (R194). -/
def execPutStation (tag : Byte) (body : List Byte) (s : State) : Host.Outcome State Fault Refusal :=
  hostRequest 0x06 tag body ownPutStation s

/-- SET_PROTECTION (R151). -/
def execSetProtection (tag : Byte) (body : List Byte) (s : State) : Host.Outcome State Fault Refusal :=
  hostRequest 0x07 tag body ownSetProtection s

/-- CLEAR_CONFIG (R194). -/
def execClearConfig (tag : Byte) (body : List Byte) (s : State) : Host.Outcome State Fault Refusal :=
  hostRequest 0x08 tag body ownClearConfig s

/-- COMMIT (R197). -/
def execCommit (tag : Byte) (body : List Byte) (s : State) : Host.Outcome State Fault Refusal :=
  hostRequest 0x09 tag body ownCommit s

end Sys2Proof.Machine
end

