-- ==== Sys2Proof/Machine/Service.lean ====
section
/-! DEFINITION. The service requests (section 8.7): trips, START and STOP, faults, reconciliation, edits,
commissioning, the store and RESTART: what their owners answer, and their meanings as commands. -/

namespace Sys2Proof.Machine

/-! ## REQUEST_TRIP, CONFIRM_TRIP, WITHDRAW_TRIP (R56 to R60, R68) -/

/-- R56 to R58: the owner's answer to REQUEST_TRIP. -/
def ownRequestTrip (body : List Byte) (s : State) : Answer :=
  match admission s none (u8At body 0) (u8At body 1) (some (u8At body 2)) with
  | .inl r => refuse r
  | .inr (conv, kind, dest) =>
    let t := admittedTrip s 0 conv kind dest
    accept (put8 t.id) (joinQueue t)

/-- R60: the trip with CONSOLE held. -/
def withConsole (t : Trip) : Trip := settled { t with held := { t.held with console := true } }

/-- R60: CONSOLE given to a trip, with its notice; a trip that holds it already is not changed. -/
def giveConsole (t : Trip) (s : State) : State :=
  if t.held.console then s
  else claim (fun u => if u.id = t.id then .set .confirmed (withConsole u) else .keep) s

/-- R60: the owner's answer to CONFIRM_TRIP; id 0x00 is no trip of the queue (notes/assumptions/38). -/
def ownConfirmTrip (body : List Byte) (s : State) : Answer :=
  if inCommission s then refuse .wrongState
  else match tripById s (u8At body 0) with
    | none => refuse .noSuchTrip
    | some t =>
      if !waiting t then refuse .active
      else if !t.required.console then refuse .outOfRange
      else accept (put8 (tripStateNumber (if t.held.console then t.state else (withConsole t).state)))
        (giveConsole t)

/-- R68, R118: the winder leaves HALTED when its SUSPENDED trip has been withdrawn. -/
def parkWithdrawn (s : State) : State := applyStaged (enterParked .withdrawn (setCurrent none s))

/-- R68: a trip is withdrawn by the host. -/
def withdrawTrip (t : Trip) (s : State) : State :=
  let s := removeTrip t.id (.withdrawn .console) s
  if t.state = .suspended then parkWithdrawn s else s

/-- R68: the owner's answer to WITHDRAW_TRIP; id 0x00 is no trip of the queue (notes/assumptions/38). -/
def ownWithdrawTrip (body : List Byte) (s : State) : Answer :=
  if inCommission s then refuse .wrongState
  else match tripById s (u8At body 0) with
    | none => refuse .noSuchTrip
    | some t => if t.state = .active then refuse .active else accept [] (withdrawTrip t)

/-! ## START (R71 to R74, R108) -/

/-- R71, check 2: an EMERGENCY or CONTROLLED entry stands in the list. -/
def inhibited (s : State) : Bool :=
  holdsAction .emergency s.prt.entries || holdsAction .controlled s.prt.entries

/-- R71, check 3: the winder is PARKED or HALTED, and an id named with a SUSPENDED trip is that trip's. -/
def startState (s : State) (named : Option Nat) : Bool :=
  (decide (s.msq.winder = .parked) || decide (s.msq.winder = .halted)) &&
    (match suspendedTrip s, named with
      | some t, some id => decide (t.id = id)
      | some _, none => true
      | none, _ => true)

/-- R71, R73: the trip that START takes when an id is named; id 0x00 is no trip of the queue
(notes/assumptions/38). -/
def namedTrip (s : State) (id : Nat) : Result ⊕ Trip :=
  match tripById s id with
  | none => .inl .noSuchTrip
  | some t =>
    if !(decide (t.state = .ready) || decide (t.state = .suspended)) then .inl .notReady
    else if !mayRun s t then .inl .notPlaced
    else .inr t

/-- R71, R73: the trip that START takes when no id is named. -/
def chosenTrip (s : State) : Result ⊕ Trip :=
  match suspendedTrip s with
  | some t => if mayRun s t then .inr t else .inl .notPlaced
  | none =>
    if !s.tqm.trips.any (fun t => decide (t.state = .ready)) then .inl .notReady
    else match arbitrate s with
      | none => .inl .notPlaced
      | some t => .inr t

/-- R71: the first failing check of START, or the taken trip (R73). -/
def startChoice (s : State) (named : Option Nat) : Result ⊕ Trip :=
  if inCommission s then .inl .wrongState
  else if inhibited s then .inl .inhibited
  else if !startState s named then .inl .wrongState
  else match named with
    | some id => namedTrip s id
    | none => chosenTrip s

/-- R108: a SEARCH trip taken from READY starts its search record afresh. -/
def freshSearch (t : Trip) (s : State) : State :=
  if t.kind = .search ∧ t.state = .ready then
    onSearch (tripDrum t) (fun r => { r with dir := r.first, exhausted := false, found := false }) s
  else s

/-- R74, R87: the taken trip enters ACTIVE; its origin station is recorded. -/
def makeActive (t : Trip) (s : State) : State :=
  let s := moveTrip t.id .active (if t.state = .suspended then .resumed else .started) s
  s.onSlc (fun x => { x with originStation := originStationAt s t })

/-- R74, R108, R87: START takes a trip; the Motion Sequencer's part comes before the path tests. -/
def startTrip (t : Trip) (s : State) : State :=
  runPath (takeTrip t (if t.state = .suspended then .resume else .start)
    (freshSearch t (makeActive t s)))

/-- The trip id that a START body names. -/
def namedId (body : List Byte) : Option Nat := if body.isEmpty then none else some (u8At body 0)

/-- R71 to R74: the owner's answer to START. -/
def ownStart (body : List Byte) (s : State) : Answer :=
  match startChoice s (namedId body) with
  | .inl r => refuse r
  | .inr t => accept (put8 t.id) (startTrip t)

/-! ## STOP and CLEAR_FAULTS (R114, R167) -/

/-- R114: a trip is under way, so that STOP is accepted. -/
def stoppable (w : Winder) : Bool := decide (w = .changeover) || inMotion w

/-- R114: the owner's answer to STOP; the reply carries the winder state after it. -/
def ownStop (_body : List Byte) (s : State) : Answer :=
  if stoppable s.msq.winder then
    accept (put8 (winderNumber (stopRun .stop s).msq.winder)) (stopRun .stop)
  else refuse .wrongState

/-- R167: CLEAR_FAULTS removes the entry. -/
def clearable (e : FaultEntry) : Bool := e.isHeld && !decide (e.recovery = .self)

/-- R167: every clearable entry is removed in list order, and then the reports are made. -/
def clearFaults (s : State) : State :=
  settleList s.prt.entries
    ((s.prt.entries.filter clearable).foldl (fun st e => takeOut .cleared e 0 st) s)

/-- R167: the owner's answer to CLEAR_FAULTS. -/
def ownClearFaults (_body : List Byte) (s : State) : Answer :=
  let removed := (s.prt.entries.filter clearable).length
  accept (put8 removed ++ put8 (s.prt.entries.length - removed)) clearFaults

/-! ## RECONCILE (R41, R42) -/

/-- R42: the record of the reference conveyance placed at the assumed depth. -/
def assumedTrack (s : State) (d : Drum) (assumed : Int) (c : ConvTrack) : ConvTrack :=
  let conv := referenceConv d
  { c with
    datum := assumed - baseOf (cfg s).params conv -
      signedRope (cfg s).params conv (drumTrack s d).count
    drift := 0, pos := .unknown, expected := none }

/-- R42: the SEARCH trip that RECONCILE places. -/
def searchTrip (s : State) (d : Drum) : Trip where
  id := nextTripId s.tqm
  kind := .search
  conv := referenceConv d
  dest := none
  requester := 0
  required := requiredFor .search
  held := { noConfs with console := true }
  state := .ready
  requestedAt := s.now
  orphaned := false
  step := 1

/-- R42: an accepted RECONCILE: the reference conveyance is placed, then the SEARCH trip. The placement reads the
live count of the drum, from which the depth of the COUNTERWEIGHT is taken too (notes/assumptions/45). -/
def reconcileDrum (d : Drum) (assumed : Int) (dir : Dir) (s : State) : State :=
  let conv := referenceConv d
  let s := readAtPulse d (onConv conv (assumedTrack s d assumed) s)
  let s := originLost conv s
  joinQueue (searchTrip s d) (setSearch d (some ⟨assumed, dir, dir, false, false⟩) s)

/-- R41, check 3: a trip is ACTIVE or SUSPENDED. -/
def tripTaken (s : State) : Bool := s.tqm.trips.any (fun t => !waiting t)

/-- R41, check 5: a SEARCH trip for the drum is in the queue. -/
def searchQueued (s : State) (d : Drum) : Bool :=
  s.tqm.trips.any (fun t => decide (t.kind = .search) && decide (tripDrum t = d))

/-- The drum, assumed depth and first direction of a RECONCILE body, in range, or none. -/
def reconcileIn (b : List Byte) : Option (Drum × Int × Dir) :=
  match drumOf (u8At b 0), dirOf (u8At b 5) with
  | some d, some dir => if depthInRange (s32At b 1) then some (d, s32At b 1, dir) else none
  | some _, none => none
  | none, _ => none

/-- R41, R42: the owner's answer to RECONCILE; the reply carries the id of the trip placed. -/
def ownReconcile (body : List Byte) (s : State) : Answer :=
  if inCommission s then refuse .wrongState
  else match reconcileIn body with
    | none => refuse .outOfRange
    | some (d, assumed, dir) =>
      if tripTaken s then refuse .wrongState
      else if s.tqm.trips.length ≥ 16 then refuse .queueFull
      else if searchQueued s d then refuse .duplicate
      else accept (put8 (reconcileDrum d assumed dir s).tqm.lastId) (reconcileDrum d assumed dir)

/-! ## EDIT and DROP_EDITS (R13 to R21) -/

/-- R13, checks 2 and 3: the item that an EDIT body names, with a value of no meaning, or none. -/
def editItem (b : List Byte) : Option Edit :=
  match u8At b 0 with
  | 1 => (numberAt b 1 1 24).map (fun n => .zoneCeiling n 0)
  | 2 => (numberAt b 1 1 24).map (fun n => .zoneEnable n true)
  | 3 => (numberAt b 1 0 39).map (fun n => .levelEnable n true)
  | 4 => (numberAt b 1 1 24).map (fun n => .stationMask n
      ⟨false, false, false, false, false, false, false, false, false, false⟩)
  | _ => none

/-- R13, check 5, and R201: the edit of an item with the value of the body, or none. -/
def editValue (b : List Byte) : Edit → Option Edit
  | .zoneCeiling n _ => if u16At b 3 ≤ 2000 then some (.zoneCeiling n (u16At b 3)) else none
  | .zoneEnable n _ => (boolAt b 4).map (fun on => .zoneEnable n on)
  | .levelEnable n _ => (boolAt b 4).map (fun on => .levelEnable n on)
  | .stationMask n _ => (maskAt b 2).map (fun m => .stationMask n m)

/-- R16: a level disabled: every waiting trip to it is removed WITHDRAWN with reason LEVEL_OUT. -/
def levelOut (level : Nat) (s : State) : State :=
  claim (fun t =>
    if waiting t && decide (t.dest = some level) then .drop (.withdrawn .levelOut) t else .keep) s

/-- R17: the Motion Sequencer recomputes the ceiling for a running trip other than a SEARCH trip. -/
def zoneTightened (s : State) : State :=
  match activeTrip s with
  | none => s
  | some t => if t.kind = .search then s else bringToTarget s

/-- R15 to R17: what a tightening edit calls for in the owning block. -/
def editConsequence (e : Edit) (s : State) : State :=
  match e with
  | .zoneCeiling _ _ => zoneTightened s
  | .zoneEnable _ _ => zoneTightened s
  | .levelEnable level _ => levelOut level s
  | .stationMask _ _ => s

/-- R15: a tightening edit takes effect at once and removes a staged edit for its item. -/
def editNow (e : Edit) (s : State) : State :=
  let removed := s.pfu.staged.find? (fun x => sameItem x e)
  let s := setStaged (s.pfu.staged.filter (fun x => !sameItem x e)) (putInForce e s)
  notify (.edit .immediate [e] removed) (editConsequence e s)

/-- R18, R19: a loosening edit taken in PARKED takes effect at once (notes/assumptions/19). -/
def editParked (e : Edit) (s : State) : State := notify (.edit .parked [e] none) (putInForce e s)

/-- R18: a loosening edit is staged, in the place of a staged edit for its item or at the tail. -/
def stageEdit (e : Edit) (s : State) : State :=
  setStaged (if isStaged s e then s.pfu.staged.map (fun x => if sameItem x e then e else x)
    else s.pfu.staged ++ [e]) s

/-- R13, R15, R18: the answer to an edit whose value is in range; dispositions APPLIED 1, STAGED 2,
REPLACED 3. -/
def answerEdit (e : Edit) (s : State) : Answer :=
  if tightening (cfg s) e then accept (put8 1) (editNow e)
  else if s.msq.winder = .parked then accept (put8 1) (editParked e)
  else if isStaged s e then accept (put8 3) (stageEdit e)
  else if s.pfu.staged.length ≥ 8 then refuse .stageFull
  else accept (put8 2) (stageEdit e)

/-- R13: the owner's answer to EDIT, the checks in order. -/
def ownEdit (body : List Byte) (s : State) : Answer :=
  if inCommission s then refuse .wrongState
  else match editItem body with
    | none => refuse .outOfRange
    | some item =>
      match itemMissing (cfg s) item with
      | some r => refuse r
      | none =>
        match editValue body item with
        | none => refuse .outOfRange
        | some e => answerEdit e s

/-- R20: the staged buffer is emptied, with its notice when it was not empty. -/
def dropStaged (s : State) : State :=
  if s.pfu.staged.isEmpty then s else notify (.edit .dropped s.pfu.staged none) (setStaged [] s)

/-- R20: the owner's answer to DROP_EDITS. -/
def ownDropEdits (_body : List Byte) (s : State) : Answer :=
  if inCommission s then refuse .wrongState else accept (put8 s.pfu.staged.length) dropStaged

/-! ## ENTER_COMMISSION (R193, R78, R105, R121) -/

/-- R78: every trip is removed, WITHDRAWN with reason COMMISSION. -/
def emptyQueue (s : State) : State := claim (fun t => .drop (.withdrawn .commission) t) s

/-- R103, R105: the STATION notices of the stations that were not UNHEARD. -/
def unheardNotices (old : Table Station) : List Notice :=
  (old.filter (fun p => !decide (p.2.link = .unheard))).map
    (fun p => .station p.1 p.2.link .unheard 0 true false false)

/-- R105: the Station Line Controller stops: its values of R84, its notices by ascending station, its
conditions gone: every subject of STATION_LOST, then of STATION_HOLD, then of PATH_GATE
(notes/assumptions/18). -/
def stopStations (s : State) : State :=
  goneAll .pathGate (goneAll .stationHold (goneAll .stationLost
    (notifyAll (unheardNotices s.slc.stations)
      (s.onSlc (fun _ => Slc.fresh (cfg s).stations)))))

/-- R193: an accepted ENTER_COMMISSION, in the order of its steps. -/
def enterCommission (s : State) : State :=
  let s := stopStations (dropStaged (emptyQueue s))
  let s := s.onCfs (fun c => { c with working := c.inForce })
  setCeiling Ceiling.idle (setWinder .commission .commission s)

/-- R193: the owner's answer to ENTER_COMMISSION. -/
def ownEnterCommission (_body : List Byte) (s : State) : Answer :=
  if writing s then refuse .busy
  else if s.msq.winder = .parked then accept [] enterCommission
  else refuse .wrongState

/-! ## STORE and RESTART (R188, R189, R183, R192) -/

/-- R188, R189: a store write begins; its first step clears the valid mark (notes/assumptions/21). -/
def beginStore (s : State) : State :=
  s.onCfs (fun c => { c with
    image := { c.image with mark := false }
    write := some ⟨c.inForce, if c.inForce.isSome then .writing else .clearing, s.now⟩ })

/-- R188: the owner's answer to STORE. -/
def ownStore (_body : List Byte) (s : State) : Answer :=
  if writing s then refuse .busy
  else if inCommission s || decide (s.msq.winder = .parked) then accept [] beginStore
  else refuse .wrongState

/-- R192: RESTART is accepted in the winder state. -/
def restartable (w : Winder) : Bool :=
  match w with
  | .commission => true
  | .parked => true
  | .halted => true
  | .tripped => true
  | .changeover => false
  | .running _ => false
  | .stopping _ => false

/-- R192: the positions may be kept: the RESTART was accepted in PARKED or HALTED. -/
def restartKeeps (w : Winder) : Bool := decide (w = .parked) || decide (w = .halted)

/-- R183, R185: an accepted RESTART turns the drain on. -/
def beginDrain (s : State) : State :=
  s.onHlc (fun h => { h with drain := .on (restartKeeps s.msq.winder) })

/-- R192: the owner's answer to RESTART. -/
def ownRestart (_body : List Byte) (s : State) : Answer :=
  if writing s then refuse .busy
  else if restartable s.msq.winder then accept [] beginDrain
  else refuse .wrongState

/-! ## The commands -/

/-- REQUEST_TRIP (R57). -/
def execRequestTrip (tag : Byte) (body : List Byte) (s : State) : Host.Outcome State Fault Refusal :=
  hostRequest 0x10 tag body ownRequestTrip s

/-- CONFIRM_TRIP (R60). -/
def execConfirmTrip (tag : Byte) (body : List Byte) (s : State) : Host.Outcome State Fault Refusal :=
  hostRequest 0x11 tag body ownConfirmTrip s

/-- WITHDRAW_TRIP (R68). -/
def execWithdrawTrip (tag : Byte) (body : List Byte) (s : State) : Host.Outcome State Fault Refusal :=
  hostRequest 0x12 tag body ownWithdrawTrip s

/-- START (R71). -/
def execStart (tag : Byte) (body : List Byte) (s : State) : Host.Outcome State Fault Refusal :=
  hostRequest 0x13 tag body ownStart s

/-- STOP (R114). -/
def execStop (tag : Byte) (body : List Byte) (s : State) : Host.Outcome State Fault Refusal :=
  hostRequest 0x14 tag body ownStop s

/-- CLEAR_FAULTS (R167). -/
def execClearFaults (tag : Byte) (body : List Byte) (s : State) : Host.Outcome State Fault Refusal :=
  hostRequest 0x15 tag body ownClearFaults s

/-- RECONCILE (R42). -/
def execReconcile (tag : Byte) (body : List Byte) (s : State) : Host.Outcome State Fault Refusal :=
  hostRequest 0x16 tag body ownReconcile s

/-- EDIT (R13). -/
def execEdit (tag : Byte) (body : List Byte) (s : State) : Host.Outcome State Fault Refusal :=
  hostRequest 0x17 tag body ownEdit s

/-- DROP_EDITS (R20). -/
def execDropEdits (tag : Byte) (body : List Byte) (s : State) : Host.Outcome State Fault Refusal :=
  hostRequest 0x18 tag body ownDropEdits s

/-- ENTER_COMMISSION (R193). -/
def execEnterCommission (tag : Byte) (body : List Byte) (s : State) :
    Host.Outcome State Fault Refusal :=
  hostRequest 0x19 tag body ownEnterCommission s

/-- STORE (R188). -/
def execStore (tag : Byte) (body : List Byte) (s : State) : Host.Outcome State Fault Refusal :=
  hostRequest 0x1A tag body ownStore s

/-- RESTART (R192). -/
def execRestart (tag : Byte) (body : List Byte) (s : State) : Host.Outcome State Fault Refusal :=
  hostRequest 0x1B tag body ownRestart s

end Sys2Proof.Machine
end

