-- ==== Sys2Proof/Machine/Link.lean ====
section
/-! DEFINITION. The host link's events (R173 to R181): bytes and the frame hunter, gaps, framing errors,
discarded and unknown frames, and the end of a frame sent; with their meanings as commands. -/

namespace Sys2Proof.Machine

/-! ## The owner of a request (section 8.7, R201) -/

/-- R178: the answer of the block that owns the request of a kind; a kind that names none is answered by
the Host Link Controller. -/
def ownerOf (kind : Byte) (body : List Byte) (s : State) : Answer :=
  match kind.toNat with
  | 0x01 => ownSetParam body s
  | 0x02 => ownPutLevel body s
  | 0x03 => ownPutZone body s
  | 0x04 => ownPutRetardRow body s
  | 0x05 => ownPutMark body s
  | 0x06 => ownPutStation body s
  | 0x07 => ownSetProtection body s
  | 0x08 => ownClearConfig body s
  | 0x09 => ownCommit body s
  | 0x10 => ownRequestTrip body s
  | 0x11 => ownConfirmTrip body s
  | 0x12 => ownWithdrawTrip body s
  | 0x13 => ownStart body s
  | 0x14 => ownStop body s
  | 0x15 => ownClearFaults body s
  | 0x16 => ownReconcile body s
  | 0x17 => ownEdit body s
  | 0x18 => ownDropEdits body s
  | 0x19 => ownEnterCommission body s
  | 0x1A => ownStore body s
  | 0x1B => ownRestart body s
  | 0x20 => ownGetState body s
  | 0x21 => ownGetPositions body s
  | 0x22 => ownGetQueue body s
  | 0x23 => ownGetTrip body s
  | 0x24 => ownGetFaults body s
  | 0x25 => ownGetFirstOut body s
  | 0x26 => ownGetStations body s
  | 0x27 => ownGetEdits body s
  | 0x28 => ownGetParam body s
  | 0x29 => ownGetLevel body s
  | 0x2A => ownGetZone body s
  | 0x2B => ownGetProtection body s
  | _ => refuse .unknownKind

/-! ## The frame hunter (R173 to R175) -/

/-- The hunter written, with the time of the byte taken. -/
def hunterAt (h : Hunter) (s : State) : State :=
  s.onHlc (fun x => { x with hunter := h, lastByte := s.now })

/-- R173: the next state at a byte that does not end a frame; LEN, and the count of body bytes, decide
between BODY and CHECK. -/
def huntByte (h : Hunter) (b : Byte) : Hunter :=
  match h with
  | .hunt => if b = 0xD2 then .syncSeen else .hunt
  | .syncSeen => if b = 0x4E then .len else if b = 0xD2 then .syncSeen else .hunt
  | .len => if b.toNat ≤ 56 then .kind b else .hunt
  | .kind len => .tag len b
  | .tag len kind => if len = 0 then .check len kind b [] else .body len kind b []
  | .body len kind tag bytes =>
    if bytes.length + 1 < len.toNat then .body len kind tag (bytes ++ [b])
    else .check len kind tag (bytes ++ [b])
  | .check _ _ _ _ => .hunt

/-- R174: a byte that arrives more than 25 ms after the one before it is taken in HUNT. -/
def hunterNow (s : State) : Hunter :=
  if s.now > s.hlc.lastByte + 25 then .hunt else s.hlc.hunter

/-- R175: a frame whose CHECK byte has been taken is judged; a well-formed one is taken by its owner. -/
def judgeFrame (len kind tag : Byte) (bytes : List Byte) (check : Byte) (s : State) : State :=
  if check = frameCheck ([len, kind, tag] ++ bytes) then
    takeFrame kind tag bytes (ownerOf kind bytes s) s
  else hunterAt .hunt s

/-- R173: a byte received without a framing error is taken; none is while the drain is on (R185). -/
def takeByte (b : Byte) (s : State) : State :=
  match s.hlc.drain with
  | .on _ => s
  | .off =>
    match hunterNow s with
    | .check len kind tag bytes => judgeFrame len kind tag bytes b s
    | .hunt => hunterAt (huntByte .hunt b) s
    | .syncSeen => hunterAt (huntByte .syncSeen b) s
    | .len => hunterAt (huntByte .len b) s
    | .kind len => hunterAt (huntByte (.kind len) b) s
    | .tag len kind => hunterAt (huntByte (.tag len kind) b) s
    | .body len kind tag bytes => hunterAt (huntByte (.body len kind tag bytes) b) s

/-- R175: a completed frame whose check value disagrees is discarded; the hunter stands in HUNT. -/
def discardFrame (s : State) : State :=
  match s.hlc.drain with
  | .on _ => s
  | .off => hunterAt .hunt s

/-- R174: 25 ms have passed without a byte in a partial frame, which is discarded. -/
def byteGap (s : State) : State :=
  match s.hlc.hunter with
  | .hunt => s
  | .syncSeen => passed
  | .len => passed
  | .kind _ => passed
  | .tag _ _ => passed
  | .body _ _ _ _ => passed
  | .check _ _ _ _ => passed
where
  passed : State :=
    (advanceTo (s.hlc.lastByte + 25) s).onHlc (fun h => { h with hunter := .hunt })

/-- R174: a byte with a framing error discards any partial frame and is not taken. -/
def framingFault (s : State) : State := s.onHlc (fun h => { h with hunter := .hunt })

/-! ## The end of a frame sent (R176, R177, R180, R181) -/

/-- R180: the CHECK byte of the frame being sent has gone out. A reply frees its place; the transmitter
then chooses the next frame. -/
def sentFrame (h : Hlc) : Hlc :=
  match h.tx with
  | .idle => h
  | .reply => chooseNext { h with places := h.places.tail }
  | .notice _ => chooseNext h

/-! ## The commands -/

/-- UNKNOWN_KIND (R178): a well-formed frame whose KIND names no request. -/
def execUnknownKind (kind tag : Byte) (body : List Byte) (s : State) :
    Host.Outcome State Fault Refusal :=
  hostRequest kind tag body (ownerOf kind) s

/-- HOST_FRAME_DISCARDED (R175). -/
def execHostFrameDiscarded (s : State) : Host.Outcome State Fault Refusal := whenPowered discardFrame s

/-- BYTE_GAP_TIMEOUT (R174). -/
def execByteGapTimeout (s : State) : Host.Outcome State Fault Refusal := whenPowered byteGap s

/-- FRAMING_ERROR (R174). -/
def execFramingError (s : State) : Host.Outcome State Fault Refusal := whenPowered framingFault s

/-- TRANSMIT_COMPLETE (R180). -/
def execTransmitComplete (s : State) : Host.Outcome State Fault Refusal :=
  whenPowered (fun s => s.onHlc sentFrame) s

/-- HOST_BYTE_TAKEN (R173). -/
def execHostByteTaken (b : Byte) (s : State) : Host.Outcome State Fault Refusal :=
  whenPowered (takeByte b) s

end Sys2Proof.Machine
end

