-- ==== Sys2Proof/Machine/Resets.lean ====
section
/-! DEFINITION. Power-up, the RESET line, the reset of RESTART and the loss of supply (R24, R84, R106, R132,
R137, R148, R152, R182, R190 to R192), with their meanings as commands. -/

namespace Sys2Proof.Machine

/-! ## Readings at a reset (R136, R154, R155) -/

/-- R136: the reading of a clutch's two lines. -/
def readClutch (inLine outLine : Bool) : ClutchReading :=
  match inLine, outLine with
  | true, false => .atEngaged
  | false, true => .atFree
  | false, false => .between
  | true, true => .conflict

/-! ## The blocks after a reset -/

/-- R190: the stored image once a write in flight has ended where it stands: its mark is clear. -/
def imageAfterCut (c : Cfs) : Image :=
  if c.write.isSome then { c.image with mark := false } else c.image

/-- R191: the configuration store after a reset: a valid image is in force; without one the working
configuration is present with the defaults. A write in flight has ended (R190). -/
def resetStore (c : Cfs) : Cfs :=
  let image := imageAfterCut c
  { image := image
    write := none
    working := if image.valid then none else some defaultConfiguration
    inForce := if image.valid then some image.content else none }

/-- R24, R192: the record of a conveyance after a reset. -/
def resetConv (keep : Bool) (c : ConvTrack) : ConvTrack :=
  if keep then { c with dir := none, expected := none, aimDue := true } else ConvTrack.fresh

/-- R24: the Depth Tracker after a reset; `counts` says that the encoder counts are kept, `positions` that
the positions are. -/
def resetDepth (counts positions : Bool) (lines : LineLevels) (p : Dpt) : Dpt where
  drum1 := DrumTrack.fresh (if counts then p.drum1.count else 0) lines.ef1
  drum2 := DrumTrack.fresh (if counts then p.drum2.count else 0) lines.ef2
  cage := resetConv positions p.cage
  counterweight := resetConv positions p.counterweight
  skip := resetConv positions p.skip
  linkError := none

/-- R154, R155, R161: the Protection Unit at a reset, before the raises. -/
def resetProtections (lines : LineLevels) : Prt :=
  { Prt.reset with
    ultC := !lines.ultC
    ultW := !lines.ultW
    ultS := !lines.ultS
    slkC := lines.slkC
    slkW := lines.slkW
    slkS := lines.slkS }

/-- Every block's state after a reset (R191). `keep` says that the reset is that of a RESTART accepted in
PARKED or HALTED (R192). -/
def resetBlocks (keep : Bool) (lines : LineLevels) (s : State) : State :=
  let cfs := resetStore s.cfs
  let positions := keep && (match cfs.inForce with
    | some c => keepsPositions s.cfs.inForce c
    | none => false)
  {
    now := 0
    powered := true
    hlc := Hlc.reset
    slc := Slc.fresh (cfs.inForce.getD defaultConfiguration).stations
    pfu := Pfu.reset
    dpt := resetDepth keep positions lines s.dpt
    tqm := Tqm.reset
    msq := Msq.fresh (if cfs.inForce.isSome then .parked else .commission)
    cpl := Cpl.fresh (readClutch lines.in1 lines.out1) (readClutch lines.in2 lines.out2)
    prt := resetProtections lines
    cfs := cfs
    pending := s.pending }

/-! ## The raises that follow a reset (R152) -/

/-- A condition found at the reset. -/
def presentIf (holds : Bool) (p : Protection) (n : Nat) (s : State) : State :=
  if holds then present p n s else s

/-- R28: the fault line of a drum found asserted at the reset. -/
def faultIf (d : Drum) (s : State) : State :=
  if (drumTrack s d).faultLine then encoderFault d s else s

/-- R38, R152: a kept miss count at or above MISS_LIMIT. -/
def missedKept (s : State) (conv : Conveyance) : Bool :=
  decide (((convTrack s conv).misses : Int) ≥ (cfg s).params.missLimit)

/-- R152: ULTIMATE_LIMIT, SLACK_ROPE, MARK_MISSED, and then ENCODER_FAULT, the subjects of each in ascending
number (notes/assumptions/23). -/
def raiseAtReset (s : State) : State :=
  let s := presentIf s.prt.ultC .ultimateLimit 1 s
  let s := presentIf s.prt.ultW .ultimateLimit 2 s
  let s := presentIf s.prt.ultS .ultimateLimit 3 s
  let s := presentIf s.prt.slkC .slackRope 1 s
  let s := presentIf s.prt.slkW .slackRope 2 s
  let s := presentIf s.prt.slkS .slackRope 3 s
  let s := allConveyances.foldl
    (fun st conv => presentIf (missedKept st conv) .markMissed (convNumber conv) st) s
  faultIf .d2 (faultIf .d1 s)

/-- R191, R192: a reset, with the raises that follow it. -/
def resetPart (keep : Bool) (lines : LineLevels) (s : State) : State :=
  raiseAtReset (resetBlocks keep lines s)

/-- R185: the reset that a RESTART asked for takes effect once its reply, the last of the occupied places,
has been sent whole. -/
def restartDue (h : Hlc) : Option Bool :=
  match h.drain with
  | .off => none
  | .on keep =>
    if h.places.isEmpty || (decide (h.places.length = 1) && decide (h.tx = .reply)) then some keep
    else none

/-- R185: the reset of RESTART. -/
def restartReset (lines : LineLevels) (s : State) : State :=
  match restartDue s.hlc with
  | none => s
  | some keep => resetPart keep lines s

/-! ## Loss of supply (section 6.1, R180, R185, R190) -/

/-- The CPL without supply: every line at its withdrawn or released level. -/
def darkLines (c : Cpl) : Cpl :=
  { c with
    brk1 := false
    brk2 := false
    drv := false
    eng1 := false
    dis1 := false
    eng2 := false
    dis2 := false }

/-- Supply present or absent. -/
def setPowered (on : Bool) (s : State) : State := { s with powered := on }

/-- R190: a store write in flight ends with the mark clear, a frame being sent is cut off, a drain ends, and
every output takes its unpowered level (notes/assumptions/6). -/
def losePower (s : State) : State :=
  setPowered false
    (((s.onCfs (fun c => { c with image := imageAfterCut c, write := none })).onHlc
      (fun h => { h with tx := .idle, drain := .off })).onCpl darkLines)

/-! ## The commands -/

/-- POWER_UP (R191). -/
def execPowerUp (lines : LineLevels) (s : State) : Host.Outcome State Fault Refusal :=
  .next (resetPart false lines s)

/-- RESET_LINE (R191). -/
def execResetLine (lines : LineLevels) (s : State) : Host.Outcome State Fault Refusal :=
  whenPowered (resetPart false lines) s

/-- RESTART_RESET (R185). -/
def execRestartReset (lines : LineLevels) (s : State) : Host.Outcome State Fault Refusal :=
  whenPowered (restartReset lines) s

/-- POWER_LOSS (R190). -/
def execPowerLoss (s : State) : Host.Outcome State Fault Refusal := whenPowered losePower s

end Sys2Proof.Machine
end

