-- ==== Sys2Proof/Machine/Timers.lean ====
section
/-! DEFINITION. The expiries of the part's timers and the end of a store write (R110, R113, R116, R117,
R140, R145, R166, R67, R189), with their meanings as commands. An expiry carries the clock to its
deadline if it stands earlier (notes/assumptions/1); the expiry of a timer that does not run changes
nothing (notes/assumptions/14). -/

namespace Sys2Proof.Machine

/-! ## Timers of the clutches and the run -/

/-- R140: the movement timer of a drum's clutch expires: the command is released, the clutch is UNSURE, the
changeover stays recorded with no movement under way, and CLUTCH_TIMEOUT is raised. -/
def clutchTimeout (d : Drum) (s : State) : State :=
  match (clutchOf s d).timer, s.cpl.changeover with
  | some deadline, some c =>
    match c.movement with
    | none => s
    | some m =>
      if movedDrum c.target m = d then
        raise .clutchTimeout (drumNumber d)
          (setChangeover (some ⟨c.target, none⟩) (endMovement d m .unsure (advanceTo deadline s)))
      else s
  | some _, none => s
  | none, _ => s

/-- R110: TORQUE_DELAY expires in PROVING. -/
def torqueEnds (s : State) : State :=
  match s.msq.phaseTimer, s.msq.winder with
  | some (.torque deadline), .running .proving => enterMoving (advanceTo deadline s)
  | some (.torque _), _ => s
  | some (.brakeSet _), _ => s
  | none, _ => s

/-- R113, R116: BRAKE_SET_DELAY expires. -/
def brakeDelayEnds (s : State) : State :=
  match s.msq.phaseTimer with
  | some (.brakeSet deadline) => brakeSet (setTimer none (advanceTo deadline s))
  | some (.torque _) => s
  | none => s

/-- R117: the stop timer reaches STOP_TIME_LIMIT. -/
def stopOverruns (s : State) : State :=
  match s.msq.stopStart, s.msq.winder with
  | some start, .stopping _ =>
    raise .stopOverrun 0 (advanceTo (start + (cfg s).params.stopTimeLimit.toNat * 1000) s)
  | some _, _ => s
  | none, _ => s

/-- R145: the deadline of a FADE watch passes. -/
def fadeEnds (d : Drum) (s : State) : State :=
  match watchOf s d with
  | .fade _ deadline => raise .brakeFade (drumNumber d) (setWatch d .none (advanceTo deadline s))
  | .none => s
  | .held _ _ => s

/-! ## Retry timers and the pending expiry -/

/-- R166: the retry timer of an entry expires; the entry is removed. -/
def retryEnds (p : Protection) (s : State) : State :=
  match entryOf s p with
  | none => s
  | some e =>
    match e.deadline with
    | none => s
    | some deadline => removeEntry .retry e 0 (advanceTo deadline s)

/-- R67: the deadline of a trip passes; a PENDING trip is removed EXPIRED (notes/assumptions/11). -/
def pendingEnds (id : Nat) (s : State) : State :=
  match tripById s id with
  | none => s
  | some t =>
    if t.state = .pending then removeTrip id .expired (advanceTo (pendingDeadline s t + 1) s) else s

/-! ## The store write (R189) -/

/-- The write state IDLE, and the image as the write leaves it. -/
def endWrite (image : Image) (s : State) : State :=
  s.onCfs (fun c => { c with image := image, write := none })

/-- R189: the image after a write of a configuration; the mark is set only where the value read back
agrees. -/
def writtenImage (agrees : Bool) (c : Configuration) (old : Image) : Image :=
  if agrees then ⟨c, configCheck c, true⟩ else { old with mark := false }

/-- R189: the store write ends, with its STORE notice. -/
def storeEnds (agrees : Bool) (s : State) : State :=
  match s.cfs.write with
  | none => s
  | some w =>
    let took := s.now - w.startedAt
    match w.content with
    | none => notify (.store .erased 0 took) (endWrite { s.cfs.image with mark := false } s)
    | some c =>
      notify (.store (if agrees then .written else .failed) (configCheck c) took)
        (endWrite (writtenImage agrees c s.cfs.image) s)

/-! ## The commands -/

/-- CLUTCH_TIME_EXPIRY (R140). -/
def execClutchTimeExpiry (d : Drum) (s : State) : Host.Outcome State Fault Refusal :=
  whenPowered (clutchTimeout d) s

/-- TORQUE_DELAY_EXPIRY (R110). -/
def execTorqueDelayExpiry (s : State) : Host.Outcome State Fault Refusal := whenPowered torqueEnds s

/-- BRAKE_SET_DELAY_EXPIRY (R113). -/
def execBrakeSetDelayExpiry (s : State) : Host.Outcome State Fault Refusal :=
  whenPowered brakeDelayEnds s

/-- STOP_TIME_LIMIT_EXPIRY (R117). -/
def execStopTimeLimitExpiry (s : State) : Host.Outcome State Fault Refusal := whenPowered stopOverruns s

/-- BRAKE_STOP_DEADLINE (R145). -/
def execBrakeStopDeadline (d : Drum) (s : State) : Host.Outcome State Fault Refusal :=
  whenPowered (fadeEnds d) s

/-- RETRY_TIMER_EXPIRY (R166). -/
def execRetryTimerExpiry (p : Protection) (s : State) : Host.Outcome State Fault Refusal :=
  whenPowered (retryEnds p) s

/-- PENDING_EXPIRY (R67). -/
def execPendingExpiry (id : Nat) (s : State) : Host.Outcome State Fault Refusal :=
  whenPowered (pendingEnds id) s

/-- STORE_WRITE_COMPLETE (R189). -/
def execStoreWriteComplete (agrees : Bool) (s : State) : Host.Outcome State Fault Refusal :=
  whenPowered (storeEnds agrees) s

end Sys2Proof.Machine
end

