-- ==== Sys2Proof/Machine/Dispatch.lean ====
section
/-! DEFINITION. The meaning of every command: one arm per constructor of Instr. -/

namespace Sys2Proof.Machine

def exec (i : Instr) (s : State) : Host.Outcome State Fault Refusal :=
  match i with
  | .powerUp lines => Sys2Proof.Machine.execPowerUp lines s
  | .resetLine lines => Sys2Proof.Machine.execResetLine lines s
  | .setParam tag body => Sys2Proof.Machine.execSetParam tag body s
  | .putLevel tag body => Sys2Proof.Machine.execPutLevel tag body s
  | .putZone tag body => Sys2Proof.Machine.execPutZone tag body s
  | .putRetardRow tag body => Sys2Proof.Machine.execPutRetardRow tag body s
  | .putMark tag body => Sys2Proof.Machine.execPutMark tag body s
  | .putStation tag body => Sys2Proof.Machine.execPutStation tag body s
  | .setProtection tag body => Sys2Proof.Machine.execSetProtection tag body s
  | .clearConfig tag body => Sys2Proof.Machine.execClearConfig tag body s
  | .commit tag body => Sys2Proof.Machine.execCommit tag body s
  | .requestTrip tag body => Sys2Proof.Machine.execRequestTrip tag body s
  | .confirmTrip tag body => Sys2Proof.Machine.execConfirmTrip tag body s
  | .withdrawTrip tag body => Sys2Proof.Machine.execWithdrawTrip tag body s
  | .start tag body => Sys2Proof.Machine.execStart tag body s
  | .stop tag body => Sys2Proof.Machine.execStop tag body s
  | .clearFaults tag body => Sys2Proof.Machine.execClearFaults tag body s
  | .reconcile tag body => Sys2Proof.Machine.execReconcile tag body s
  | .edit tag body => Sys2Proof.Machine.execEdit tag body s
  | .dropEdits tag body => Sys2Proof.Machine.execDropEdits tag body s
  | .enterCommission tag body => Sys2Proof.Machine.execEnterCommission tag body s
  | .store tag body => Sys2Proof.Machine.execStore tag body s
  | .restart tag body => Sys2Proof.Machine.execRestart tag body s
  | .getState tag body => Sys2Proof.Machine.execGetState tag body s
  | .getPositions tag body => Sys2Proof.Machine.execGetPositions tag body s
  | .getQueue tag body => Sys2Proof.Machine.execGetQueue tag body s
  | .getTrip tag body => Sys2Proof.Machine.execGetTrip tag body s
  | .getFaults tag body => Sys2Proof.Machine.execGetFaults tag body s
  | .getFirstOut tag body => Sys2Proof.Machine.execGetFirstOut tag body s
  | .getStations tag body => Sys2Proof.Machine.execGetStations tag body s
  | .getEdits tag body => Sys2Proof.Machine.execGetEdits tag body s
  | .getParam tag body => Sys2Proof.Machine.execGetParam tag body s
  | .getLevel tag body => Sys2Proof.Machine.execGetLevel tag body s
  | .getZone tag body => Sys2Proof.Machine.execGetZone tag body s
  | .getProtection tag body => Sys2Proof.Machine.execGetProtection tag body s
  | .unknownKind kind tag body => Sys2Proof.Machine.execUnknownKind kind tag body s
  | .hostFrameDiscarded => Sys2Proof.Machine.execHostFrameDiscarded s
  | .byteGapTimeout => Sys2Proof.Machine.execByteGapTimeout s
  | .framingError => Sys2Proof.Machine.execFramingError s
  | .transmitComplete => Sys2Proof.Machine.execTransmitComplete s
  | .restartReset lines => Sys2Proof.Machine.execRestartReset lines s
  | .stationPoll => Sys2Proof.Machine.execStationPoll s
  | .stationAnswer answer => Sys2Proof.Machine.execStationAnswer answer s
  | .answerWindowExpiry => Sys2Proof.Machine.execAnswerWindowExpiry s
  | .drumSample drum => Sys2Proof.Machine.execDrumSample drum s
  | .standstillReached drum => Sys2Proof.Machine.execStandstillReached drum s
  | .markPulse comp => Sys2Proof.Machine.execMarkPulse comp s
  | .encoderFaultLineAssert drum => Sys2Proof.Machine.execEncoderFaultLineAssert drum s
  | .encoderFaultLineClear drum => Sys2Proof.Machine.execEncoderFaultLineClear drum s
  | .clutchReadingChange drum reading => Sys2Proof.Machine.execClutchReadingChange drum reading s
  | .clutchTimeExpiry drum => Sys2Proof.Machine.execClutchTimeExpiry drum s
  | .ultimateLimitChange comp opened => Sys2Proof.Machine.execUltimateLimitChange comp opened s
  | .slackRopeChange comp slack => Sys2Proof.Machine.execSlackRopeChange comp slack s
  | .torqueDelayExpiry => Sys2Proof.Machine.execTorqueDelayExpiry s
  | .brakeSetDelayExpiry => Sys2Proof.Machine.execBrakeSetDelayExpiry s
  | .stopTimeLimitExpiry => Sys2Proof.Machine.execStopTimeLimitExpiry s
  | .brakeStopDeadline drum => Sys2Proof.Machine.execBrakeStopDeadline drum s
  | .retryTimerExpiry prot => Sys2Proof.Machine.execRetryTimerExpiry prot s
  | .pendingExpiry id => Sys2Proof.Machine.execPendingExpiry id s
  | .storeWriteComplete agrees => Sys2Proof.Machine.execStoreWriteComplete agrees s
  | .hostByteTaken byte => Sys2Proof.Machine.execHostByteTaken byte s
  | .encoderEdge drum up pairs => Sys2Proof.Machine.execEncoderEdge drum up pairs s
  | .powerLoss => Sys2Proof.Machine.execPowerLoss s

end Sys2Proof.Machine
end

