-- ==== Sys2Proof/Machine/Step.lean ====
section
/-! DEFINITION. One step of the part: the command at the front of the queue is run on the state with the
queue's rest; on an empty queue a millisecond passes (notes/assumptions/1). -/

namespace Sys2Proof.Machine

/-- The state with its queue of waiting commands written. -/
def State.withPending (s : State) (q : List Instr) : State := { s with pending := q }

/-- One step. -/
def step (s : State) : Host.Outcome State Fault Refusal :=
  match s.pending with
  | [] => .next (tick s)
  | i :: rest => exec i (s.withPending rest)

/-- The state with the command that a word spells put at the front of its queue; unchanged where the word
spells none. -/
def State.withFetchWord (s : State) (nbits w : Nat) : State :=
  match decodeTableWord nbits w with
  | some i => s.withPending (i :: s.pending)
  | none => s

end Sys2Proof.Machine
end

