-- ==== Sys2Proof/Safety.lean ====
section
/-! DEFINITION. The words the model's statements are made of: what the host link holds after a request, and
the invariants of the state (Sys2Proof/Certificates/Slice0/Obligations.lean states that every step keeps
them). -/

namespace Sys2Proof.Machine

/-! ## Requests and their replies (R176 to R178, R181) -/

/-- R176, R185: the part is under supply, no restart drain is on, and a frame place is free, so that a
well-formed frame is taken. -/
def linkOpen (s : State) : Bool :=
  s.powered && decide (s.hlc.drain = .off) && decide (framePlaces s.hlc < 4)

/-- R173, R178, R180: the Host Link Controller after a frame has been taken and the reply `body` formed: the
hunter is in HUNT, the reply waits behind those formed before it, and an idle transmitter begins it. -/
def answered (s : State) (kind tag : Byte) (body : List Byte) : Hlc :=
  { s.hlc with
    hunter := .hunt
    lastByte := s.now
    places := s.hlc.places ++ [⟨false, kind, tag, body⟩]
    tx := match s.hlc.tx with
      | .idle => .reply
      | .reply => .reply
      | .notice q => .notice q }

/-- R181: notices queued behind a reply, in order; the transmitter has the reply to send. -/
def queueAll (ns : List Notice) (h : Hlc) : Hlc := ns.foldl (fun x n => queueNotice n x) h

/-- R180, R181: notices handed over where no reply need be waiting: an idle transmitter takes the first. -/
def noted (ns : List Notice) (h : Hlc) : Hlc := ns.foldl (fun x n => wakeTx (queueNotice n x)) h

/-- The hosts' requests with a row of the opcode table: KIND, TAG and BODY of the frame that carries
them (R201). -/
def hostFrame : Instr → Option (Byte × Byte × List Byte)
  | .setParam tag body => some (0x01, tag, body)
  | .putLevel tag body => some (0x02, tag, body)
  | .putZone tag body => some (0x03, tag, body)
  | .putRetardRow tag body => some (0x04, tag, body)
  | .putMark tag body => some (0x05, tag, body)
  | .putStation tag body => some (0x06, tag, body)
  | .setProtection tag body => some (0x07, tag, body)
  | .clearConfig tag body => some (0x08, tag, body)
  | .commit tag body => some (0x09, tag, body)
  | .requestTrip tag body => some (0x10, tag, body)
  | .confirmTrip tag body => some (0x11, tag, body)
  | .withdrawTrip tag body => some (0x12, tag, body)
  | .start tag body => some (0x13, tag, body)
  | .stop tag body => some (0x14, tag, body)
  | .clearFaults tag body => some (0x15, tag, body)
  | .reconcile tag body => some (0x16, tag, body)
  | .edit tag body => some (0x17, tag, body)
  | .dropEdits tag body => some (0x18, tag, body)
  | .enterCommission tag body => some (0x19, tag, body)
  | .store tag body => some (0x1A, tag, body)
  | .restart tag body => some (0x1B, tag, body)
  | .getState tag body => some (0x20, tag, body)
  | .getPositions tag body => some (0x21, tag, body)
  | .getQueue tag body => some (0x22, tag, body)
  | .getTrip tag body => some (0x23, tag, body)
  | .getFaults tag body => some (0x24, tag, body)
  | .getFirstOut tag body => some (0x25, tag, body)
  | .getStations tag body => some (0x26, tag, body)
  | .getEdits tag body => some (0x27, tag, body)
  | .getParam tag body => some (0x28, tag, body)
  | .getLevel tag body => some (0x29, tag, body)
  | .getZone tag body => some (0x2A, tag, body)
  | .getProtection tag body => some (0x2B, tag, body)
  | .unknownKind kind tag body => some (kind, tag, body)
  | _ => none

/-- The commissioning requests (section 8.7). -/
def commissioningKind (kind : Byte) : Bool := decide (1 ≤ kind.toNat) && decide (kind.toNat ≤ 9)

/-! ## The line levels of a quiet reset (R28, R154, R155) -/

/-- No encoder fault line and no slack-rope line is asserted, and every ultimate limit circuit is made. -/
def quietLines (l : LineLevels) : Bool :=
  !l.ef1 && !l.ef2 && l.ultC && l.ultW && l.ultS && !l.slkC && !l.slkW && !l.slkS

/-- The part after a reset that finds quiet lines: every block but the store at its reset value, the clutches
read from their lines, and the winder in PARKED with the configuration of a valid image in force, or in
COMMISSION with the defaults as working configuration. -/
def partAfterReset (lines : LineLevels) (image : Image) (q : List Instr) : State :=
  { State.reset with
    slc := if image.valid then Slc.fresh image.content.stations else Slc.fresh []
    msq := Msq.fresh (if image.valid then .parked else .commission)
    cpl := Cpl.fresh (readClutch lines.in1 lines.out1) (readClutch lines.in2 lines.out2)
    cfs := {
      image := image
      write := none
      working := if image.valid then none else some defaultConfiguration
      inForce := if image.valid then some image.content else none }
    pending := q }

/-- No station of the table is OPEN or LOST and no PATH_GATE or STATION_LOST is present, so that the tests of a
recomputation of the path report nothing. -/
def quietStations (s : State) : Prop :=
  (∀ p ∈ s.slc.stations, p.2.gatesOpen = false ∧ p.2.link ≠ .lost) ∧ presence s .pathGate = 0 ∧
    presence s .stationLost = 0

/-! ## The path by the words of R87 -/

/-- R83, R87: the station serves the trip's conveyance at a level with this stop depth. -/
def servesAt (s : State) (t : Trip) (n : Nat) (stop : Int) : Prop :=
  ∃ e level, tableGet n (cfg s).stations = some e ∧ roleConv e.role = some t.conv ∧
    e.level = some level ∧ stopDepth (cfg s) t.conv level = some stop

/-- R43, R87: the stop depth lies between the conveyance's depth and the destination stop depth or, for a SEARCH
trip, within the band of the current step. -/
def onSpan (s : State) (t : Trip) (stop : Int) : Prop :=
  (t.kind ≠ .search ∧ ∃ dest, tripStop s t = some dest ∧
    (dest ≤ stop ∧ stop ≤ depthOf s t.conv ∨ depthOf s t.conv ≤ stop ∧ stop ≤ dest)) ∨
  (t.kind = .search ∧ ∃ r, searchOf s (tripDrum t) = some r ∧
    r.assumed - stepWindow t.step ≤ stop ∧ stop ≤ r.assumed + stepWindow t.step)

/-- R87: a set of stations is the path of a trip with a given origin station. -/
def pathByRule (s : State) (t : Trip) (origin : Option Nat) (path : SubjectSet) : Prop :=
  ∀ n, 1 ≤ n → n ≤ 24 →
    (setHas path n = true ↔ origin = some n ∨ ∃ stop, servesAt s t n stop ∧ onSpan s t stop)

/-- R87: the conveyance lies within LEAVE_DISTANCE of the stop depth of the station's level. -/
def nearStation (s : State) (t : Trip) (n : Nat) : Prop :=
  ∃ stop, servesAt s t n stop ∧
    ((stop - depthOf s t.conv).natAbs : Int) ≤ (cfg s).params.leaveDistance

/-! ## The checks of COMMIT by the table of R196 -/

/-- R196: the item fails the check. Of two items that clash the one with the higher number fails, judged against
those before it (notes/assumptions/20). -/
def itemFails (c : Configuration) (check item : Nat) : Prop :=
  let limits (conv : Conveyance) : Int × Int := limitsOf c.params conv
  let beyond (conv : Conveyance) (d : Int) : Prop := d < (limits conv).1 ∨ (limits conv).2 < d
  match check with
  | 1 => item = 1 ∧ c.params.counts1 = 0 ∨ item = 2 ∧ c.params.counts2 = 0
  | 2 => ∃ conv d, conv ≠ .counterweight ∧ stopDepth c conv item = some d ∧
      ∃ l e, l < item ∧ stopDepth c conv l = some e ∧ d ≤ e
  | 3 => (∃ conv, item = convNumber conv ∧ (limits conv).2 ≤ (limits conv).1) ∨
      ∃ conv l d, conv ≠ .counterweight ∧ item = 64 + l ∧ stopDepth c conv l = some d ∧ beyond conv d
  | 4 => ∃ d, stopDepth c .counterweight item = some d ∧ beyond .counterweight d
  | 5 => ∃ comp n d, item = 16 * (compNumber comp - 1) + n ∧ tableGet n (marksOf c comp) = some d ∧
      (beyond (compConv comp) d ∨ ∃ k e, k < n ∧ tableGet k (marksOf c comp) = some e ∧
        (∀ j, k < j → j < n → tableGet j (marksOf c comp) = none) ∧ d ≤ e + 2 * c.params.suspectTol)
  | 6 => item = 0 ∧ c.params.suspectTol ≤ c.params.snapTol
  | 7 => ∃ d, item = drumNumber d ∧ (retardOf c d = [] ∨
      (retardOf c d).map (fun p => p.1) ≠ (List.range (retardOf c d).length).map (fun i => i + 1) ∨
      ∃ k q r, tableGet k (retardOf c d) = some q ∧ tableGet (k + 1) (retardOf c d) = some r ∧
        (r.distance ≤ q.distance ∨ r.ceiling < q.ceiling))
  | 8 => ∃ z, tableGet item c.zones = some z ∧
      (z.start < (limits (compConv z.comp)).1 ∨ (limits (compConv z.comp)).2 < z.start + z.range)
  | 9 => ∃ e, tableGet item c.stations = some e ∧
      (e.role ≠ .cagePanel ∧ (∀ l, e.level = some l → tableGet l c.levels = none) ∨
        ∃ n f, n < item ∧ tableGet n c.stations = some f ∧
          (e.role = .cagePanel ∧ f.role = .cagePanel ∨
            roleConv e.role = roleConv f.role ∧ e.level = f.level ∧ e.level ≠ none))
  | 10 => item = 1 ∧ 1600 < c.params.personnelSpeed ∨ item = 2 ∧ 1800 < c.params.materialSpeed ∨
      item = 3 ∧ 2000 < c.params.rockSpeed ∨ item = 4 ∧ c.params.inspectSpeed ≤ c.params.creepSpeed
  | _ => False

/-! ## Hunter and register by the words of R173 and R175 -/

/-- R173: the hunter's next state at each byte, in every hunter state but CHECK, for a byte within 25 ms of the
one before it. -/
def hunterTable (h : Hunter) (b : Byte) : Hunter :=
  match h with
  | .hunt => if b = 0xD2 then .syncSeen else .hunt
  | .syncSeen => if b = 0x4E then .len else if b = 0xD2 then .syncSeen else .hunt
  | .len => if b.toNat ≤ 56 then .kind b else .hunt
  | .kind len => .tag len b
  | .tag len kind => if 0 < len.toNat then .body len kind b [] else .check len kind b []
  | .body len kind tag bytes =>
    if len.toNat ≤ bytes.length + 1 then .check len kind tag (bytes ++ [b])
    else .body len kind tag (bytes ++ [b])
  | .check len kind tag bytes => .check len kind tag bytes

/-- R175 by arithmetic on numbers: one step of the register. -/
def registerStep (r : Nat) : Nat :=
  if 128 ≤ r then Nat.xor (r * 2 % 256) 0x1D else r * 2

/-- R175 by arithmetic on numbers: a byte combined and stepped eight times. -/
def registerByte (r : Nat) (b : Byte) : Nat := registerStep^[8] (Nat.xor r b.toNat)

/-! ## Service edits (section 1.8, R201) -/

/-- The body of an EDIT request that carries an edit (R201). -/
def editBody (e : Edit) : List Byte := putEdit e

/-- The index of an edit names an item of its type, the item exists in the configuration, and the value lies in
its range (R13, checks 2 to 5). -/
def editFits (c : Configuration) : Edit → Prop
  | .zoneCeiling n v => 1 ≤ n ∧ n ≤ 24 ∧ v ≤ 2000 ∧ (tableGet n c.zones).isSome = true
  | .zoneEnable n _ => 1 ≤ n ∧ n ≤ 24 ∧ (tableGet n c.zones).isSome = true
  | .levelEnable n _ => n ≤ 39 ∧ (tableGet n c.levels).isSome = true
  | .stationMask n _ => 1 ≤ n ∧ n ≤ 24 ∧ (tableGet n c.stations).isSome = true

/-! ## Invariants -/

/-- R176, R177, R181: at most 4 frame places, 4 refusal places and 32 notices are occupied; a transmitter that
sends a reply has one, and one that idles under supply has nothing it may send. -/
def linkBounded (s : State) : Prop :=
  framePlaces s.hlc ≤ 4 ∧ refusalPlaces s.hlc ≤ 4 ∧ s.hlc.notices.length ≤ 32 ∧
    (s.hlc.tx = .reply → s.hlc.places ≠ []) ∧
    (s.powered = true → s.hlc.tx = .idle →
      s.hlc.places = [] ∧ (s.hlc.drain = .off → s.hlc.notices = []))

/-- R133, R134, R138: the emergency block is set exactly while the list holds an EMERGENCY entry; while it is
set BRK1, BRK2 and DRV are withdrawn and no changeover is in progress. -/
def emergencyHeld (s : State) : Prop :=
  s.cpl.block = holdsAction .emergency s.prt.entries ∧
    (s.cpl.block = true → s.cpl.brk1 = false ∧ s.cpl.brk2 = false ∧ s.cpl.drv = false ∧
      s.cpl.changeover = none)

/-- R119 to R121, section 5.1: outside COMMISSION the winder is TRIPPED exactly while the list holds an EMERGENCY
entry. -/
def trippedUnderEmergency (s : State) : Prop :=
  s.msq.winder ≠ .commission → (s.msq.winder = .tripped ↔ holdsAction .emergency s.prt.entries = true)

/-- R124: the creep clamp is on exactly while the list holds a CREEP entry. -/
def clampFollowsCreep (s : State) : Prop := s.msq.creepClamp = holdsAction .creep s.prt.entries

/-- R161, R166, R169: one entry for each protection; a retry deadline stands only with a HELD entry whose
recovery is RETRY; the first-out record is present exactly while the list holds an entry. -/
def faultListSound (s : State) : Prop :=
  (s.prt.entries.map (fun e => e.prot)).Nodup ∧
    (∀ e ∈ s.prt.entries, e.deadline.isSome = true → e.isHeld = true ∧ e.recovery = .retry) ∧
    s.prt.firstOut.isSome = !s.prt.entries.isEmpty

/-- R138: a clutch command line is driven exactly by the movement under way of the changeover in progress;
without supply none is driven. -/
def clutchCommandsAgree (s : State) : Prop :=
  let moving (target : Drum) (m : Movement) : Bool :=
    s.powered && decide (s.cpl.changeover = some ⟨target, some m⟩)
  s.cpl.eng1 = moving .d1 .engage ∧ s.cpl.dis1 = moving .d2 .release ∧
    s.cpl.eng2 = moving .d2 .engage ∧ s.cpl.dis2 = moving .d1 .release

/-- R49: the held set is a subset of the required set. -/
def heldWithin (t : Trip) : Prop :=
  (t.held.origin = true → t.required.origin = true) ∧ (t.held.dest = true → t.required.dest = true) ∧
    (t.held.console = true → t.required.console = true) ∧ (t.held.panel = true → t.required.panel = true)

/-- R42, R52, R57, R65: the kind of a trip suits its conveyance, which is never the COUNTERWEIGHT, so that a SEARCH
trip is of the reference conveyance of its drum; its kind gives the required set, to which an orphaned trip has
CONSOLE added; a SEARCH trip holds all that it requires. -/
def tripByKind (t : Trip) : Prop :=
  t.conv ≠ .counterweight ∧ (t.kind = .rock → t.conv = .skip) ∧
    (t.kind = .personnel ∨ t.kind = .material ∨ t.kind = .inspect → t.conv = .cage) ∧
    t.required = (if t.orphaned then { requiredFor t.kind with console := true } else requiredFor t.kind) ∧
    (t.kind = .search → t.held = t.required)

/-- R42, R48 to R52, R57, R61: at most 16 trips, with ids from 1 to 255, no two alike; no two trips of one
conveyance with one destination, and none but a SEARCH trip without a destination, so that a drum has one SEARCH
trip at most; every trip is as its kind has it; every held set lies within the required set, and a waiting trip
is READY exactly when they are equal. -/
def queueSound (s : State) : Prop :=
  s.tqm.trips.length ≤ 16 ∧ (s.tqm.trips.map (fun t => t.id)).Nodup ∧
    (s.tqm.trips.map (fun t => (t.conv, t.dest))).Nodup ∧
    ∀ t ∈ s.tqm.trips, 1 ≤ t.id ∧ t.id ≤ 255 ∧ (t.dest = none ↔ t.kind = .search) ∧ tripByKind t ∧ heldWithin t ∧
      (waiting t = true → (t.state = .ready ↔ t.held = t.required))

/-- R61, R67: what a claim taken at the time `now` leaves of the trip `old`, whose sets it has changed to those of
`new`: nothing, where a READY trip falls back to PENDING after its deadline. -/
def regraded (s : State) (now : Nat) (old new : Trip) : Option Trip :=
  if old.state = .ready ∧ new.held ≠ new.required ∧
      old.requestedAt + (cfg s).params.pendingLimit.toNat * 1000 < now then none
  else some (settled new)

/-- The trip state that goes with a winder state that has a current trip (section 5.1). -/
def takenState : Winder → Option TripState
  | .changeover => some .active
  | .running _ => some .active
  | .stopping _ => some .active
  | .halted => some .suspended
  | .commission => none
  | .parked => none
  | .tripped => none

/-- Section 5.1, R51: there is a current trip exactly in CHANGEOVER, RUNNING, STOPPING (ACTIVE) and HALTED
(SUSPENDED); it is in the queue, and every other trip of the queue is PENDING or READY. -/
def runSound (s : State) : Prop :=
  match takenState s.msq.winder, s.msq.current with
  | some st, some id => (∃ t ∈ s.tqm.trips, t.id = id ∧ t.state = st) ∧
      ∀ t ∈ s.tqm.trips, t.id ≠ id → waiting t = true
  | some _, none => False
  | none, some _ => False
  | none, none => ∀ t ∈ s.tqm.trips, waiting t = true

/-- R110, R112, R116, R135: DRV is asserted only in RUNNING and STOPPING; a permit is asserted only in MOVING
and DECELERATING, and only that of the current trip's drum. -/
def permitsFollowRun (s : State) : Prop :=
  (s.cpl.drv = true → inMotion s.msq.winder = true) ∧
    ∀ d, permitOf s d = true →
      (s.msq.winder = .running .moving ∨ s.msq.winder = .stopping .decelerating) ∧ runDrum s = some d

/-- R108, R138, R139: in RUNNING and STOPPING the clutch of the current trip's drum is ENGAGED and that of the
other drum FREE. A changeover is in progress only in CHANGEOVER, to the current trip's drum, and its engagement
is under way only with the clutch of the other drum FREE. -/
def clutchesFollowRun (s : State) : Prop :=
  (∀ d, inMotion s.msq.winder = true → runDrum s = some d →
    (clutchOf s d).state = .engaged ∧ (clutchOf s (otherDrum d)).state = .free) ∧
  ∀ c, s.cpl.changeover = some c → s.msq.winder = .changeover ∧ runDrum s = some c.target ∧
    (c.movement = some .engage → (clutchOf s (otherDrum c.target)).state = .free)

/-- The configurations the part holds: the image's content, that of a store write in flight, the working
configuration and the one in force. -/
def heldConfigurations (s : State) : List Configuration :=
  s.cfs.image.content :: ((s.cfs.write.bind (fun w => w.content)).toList ++ s.cfs.working.toList ++
    s.cfs.inForce.toList)

/-- The items of every table stand in the order of their numbers, and MISS_LIMIT is at least 1 (R195). -/
def tablesSound (c : Configuration) : Bool :=
  tableSorted c.levels && tableSorted c.zones && tableSorted c.retard1 && tableSorted c.retard2 &&
    tableSorted c.marksC && tableSorted c.marksW && tableSorted c.marksS && tableSorted c.stations &&
    decide (1 ≤ c.params.missLimit)

/-- R1, R84, R191, R193, R197: the working configuration is present exactly in COMMISSION, a configuration is
in force in every other winder state, the station table has an entry for exactly the stations enrolled by the
configuration in force, and the tables of every configuration held are sound. -/
def configurationSound (s : State) : Prop :=
  s.cfs.working.isSome = inCommission s ∧ (inCommission s = false → s.cfs.inForce.isSome = true) ∧
    s.slc.stations.map (fun p => p.1) = (cfg s).stations.map (fun p => p.1) ∧
    ∀ c ∈ heldConfigurations s, tablesSound c = true

/-- R18, R19, R20, R193: at most 8 staged edits, no two for the same item, and none in PARKED or in
COMMISSION. -/
def stagedSound (s : State) : Prop :=
  s.pfu.staged.length ≤ 8 ∧ s.pfu.staged.Pairwise (fun a b => sameItem a b = false) ∧
    (s.msq.winder = .parked ∨ s.msq.winder = .commission → s.pfu.staged = [])

/-- R22, R25, R26: the count of a drum lies within the signed 32-bit range, its history holds eleven counts,
and the run of quiet samples counts to 20. -/
def drumSound (t : DrumTrack) : Prop :=
  countLow ≤ t.count ∧ t.count ≤ countHigh ∧ t.history.length = 11 ∧ t.quiet ≤ 20

/-- R37, R42: the miss count of a conveyance is at most 15, and a conveyance that is UNKNOWN has no
next-expected mark. -/
def convSound (c : ConvTrack) : Prop := c.misses ≤ 15 ∧ (c.pos = .unknown → c.expected = none)

/-- R22 to R37: every drum's and every conveyance's record is sound. -/
def depthSound (s : State) : Prop :=
  drumSound s.dpt.drum1 ∧ drumSound s.dpt.drum2 ∧ convSound s.dpt.cage ∧
    convSound s.dpt.counterweight ∧ convSound s.dpt.skip

end Sys2Proof.Machine
end

