-- ==== Sys2Proof/Certificates/Slice0/Obligations.lean ====
section
/-! DEFINITION. The statements about the W340 that the provers are asked to prove. A next state is written
whole where the command's effect is short, so that everything not written in it is unchanged; elsewhere the
statement names what the command writes and what it leaves. -/

open Sys2Proof Sys2Proof.Machine

/-! ## Steps -/

/-- A step takes the command at the front of the queue and runs it on the state with the queue's rest. -/
def Obligations.StepRunsFrontCommand : Prop :=
  ∀ (i : Instr) (rest : List Instr) (s : State), s.pending = i :: rest →
    step s = exec i { s with pending := rest }

/-- The model's choices (notes/assumptions/1 and 6): on an empty queue one ms passes on the 48-bit clock, and
without supply every command but POWER_UP changes nothing. -/
def Obligations.IdleAndUnpoweredSteps : Prop :=
  (∀ s : State, s.pending = [] → step s = .next { s with now := (s.now + 1) % 2 ^ 48 }) ∧
  (∀ (i : Instr) (s : State), s.powered = false → (∀ lines, i ≠ .powerUp lines) → exec i s = .next s)

/-- Every command is answered in every state by a next state, with the queue of waiting commands left as it
stands. -/
def Obligations.EveryCommandAnswersNext : Prop :=
  ∀ (i : Instr) (s : State), ∃ t, exec i s = .next t ∧ t.pending = s.pending

/-! ## Resets and supply -/

/-- The state after reset, block by block, as R18, R24, R48, R50, R54, R84, R106, R132, R148, R150, R152, R161,
R169, R182, R190 and R191 give it for a part whose stored image is invalid. The model's choice:
notes/assumptions/3 and 4 (the clear mark of the image; limits made, slack ropes and fault lines clear). -/
def Obligations.ResetStateIsAsTheRulesGive : Prop :=
  let s := State.reset
  s.now = 0 ∧ s.pending = [] ∧
  s.hlc.hunter = .hunt ∧ s.hlc.places = [] ∧ s.hlc.tx = .idle ∧ s.hlc.notices = [] ∧
  s.hlc.lossFlag = false ∧ s.hlc.drain = .off ∧
  s.slc.stations = [] ∧ s.slc.pointer = 0 ∧ s.slc.path = 0 ∧ s.slc.exchange = none ∧
  s.slc.originStation = none ∧ s.pfu.staged = [] ∧
  (∀ d, (drumTrack s d).count = 0 ∧ (drumTrack s d).speed = 0 ∧ (drumTrack s d).standstill = false) ∧
  (∀ c, (convTrack s c).datum = 0 ∧ (convTrack s c).drift = 0 ∧ (convTrack s c).pos = .unknown ∧
    (convTrack s c).misses = 0 ∧ (convTrack s c).dir = none ∧ (convTrack s c).expected = none) ∧
  s.dpt.linkError = none ∧
  s.tqm.trips = [] ∧ s.tqm.lastId = 0 ∧ s.tqm.originCage = .unset ∧ s.tqm.originSkip = .unset ∧
  s.msq.winder = .commission ∧ s.msq.current = none ∧ s.msq.direction = none ∧ s.msq.settle = none ∧
  s.msq.ceiling = ⟨0, .none, none, none⟩ ∧ s.msq.creepClamp = false ∧ s.msq.phaseTimer = none ∧
  s.msq.stopStart = none ∧ s.msq.excessStart = none ∧ s.msq.search1 = none ∧ s.msq.search2 = none ∧
  s.cpl.brk1 = false ∧ s.cpl.brk2 = false ∧ s.cpl.drv = false ∧ s.cpl.eng1 = false ∧
  s.cpl.dis1 = false ∧ s.cpl.eng2 = false ∧ s.cpl.dis2 = false ∧ s.cpl.block = false ∧
  s.cpl.changeover = none ∧ s.cpl.watch1 = .none ∧ s.cpl.watch2 = .none ∧
  s.prt.entries = [] ∧ s.prt.firstOut = none ∧ (∀ p, presence s p = 0) ∧
  s.cfs.write = none ∧ s.cfs.inForce = none ∧ s.cfs.working = some defaultConfiguration

/-- The invariants of Sys2Proof/Safety.lean hold of the state after reset. The model's choice: notes/assumptions/3
and 4 (the clear mark of the image; limits made, slack ropes and fault lines clear). -/
def Obligations.ResetStateIsSound : Prop :=
  linkBounded State.reset ∧ emergencyHeld State.reset ∧ trippedUnderEmergency State.reset ∧
  clampFollowsCreep State.reset ∧ faultListSound State.reset ∧ clutchCommandsAgree State.reset ∧
  queueSound State.reset ∧ runSound State.reset ∧ permitsFollowRun State.reset ∧
  clutchesFollowRun State.reset ∧ configurationSound State.reset ∧ stagedSound State.reset ∧
  depthSound State.reset

/-- R190, R191: POWER_UP in any state, and RESET_LINE of a part under supply, on quiet lines, with the image as a
store write in flight left it: its mark clear. The model's choice: notes/assumptions/3 (the time of the last
byte). -/
def Obligations.PowerUpAndResetLineLeaveResetState : Prop :=
  ∀ (lines : LineLevels) (s : State) (image : Image), quietLines lines = true →
    image = (if s.cfs.write.isSome then { s.cfs.image with mark := false } else s.cfs.image) →
    (image.valid = true → 1 ≤ image.content.params.missLimit) →
    exec (.powerUp lines) s = .next (partAfterReset lines image s.pending) ∧
    (s.powered = true → exec (.resetLine lines) s = .next (partAfterReset lines image s.pending))

/-- R132, R152, R154, R155, R180, R190, R191: whatever the lines, a POWER_UP, and likewise a RESET_LINE of a part
under supply, leaves every output line withdrawn or released, the clock and the counts at 0, and the conditions
of the ultimate limits and slack ropes present exactly where their lines show them. POWER_LOSS of a part under
supply withdraws and releases every line, cuts off the frame being sent, ends a drain, and ends a store write
with the mark clear. The model's choice: notes/assumptions/6 (what POWER_LOSS leaves in a part without supply). -/
def Obligations.SupplyAndResetDarkenOutputs : Prop :=
  (∀ (lines : LineLevels) (s : State), ∃ t, exec (.powerUp lines) s = .next t ∧
    t.now = 0 ∧ t.powered = true ∧ t.tqm.trips = [] ∧
    t.cpl.brk1 = false ∧ t.cpl.brk2 = false ∧ t.cpl.drv = false ∧ t.cpl.eng1 = false ∧
    t.cpl.dis1 = false ∧ t.cpl.eng2 = false ∧ t.cpl.dis2 = false ∧
    t.dpt.drum1.count = 0 ∧ t.dpt.drum2.count = 0 ∧
    t.dpt.drum1.faultLine = lines.ef1 ∧ t.dpt.drum2.faultLine = lines.ef2 ∧
    isPresent t .ultimateLimit 1 = !lines.ultC ∧ isPresent t .ultimateLimit 2 = !lines.ultW ∧
    isPresent t .ultimateLimit 3 = !lines.ultS ∧ isPresent t .slackRope 1 = lines.slkC ∧
    isPresent t .slackRope 2 = lines.slkW ∧ isPresent t .slackRope 3 = lines.slkS ∧
    (s.powered = true → exec (.resetLine lines) s = .next t)) ∧
  (∀ s : State, s.powered = true → exec .powerLoss s = .next { s with
    powered := false
    hlc := { s.hlc with tx := .idle, drain := .off }
    cpl := { s.cpl with
      brk1 := false, brk2 := false, drv := false
      eng1 := false, dis1 := false, eng2 := false, dis2 := false }
    cfs := { s.cfs with
      image := if s.cfs.write.isSome then { s.cfs.image with mark := false } else s.cfs.image
      write := none } })

/-- R185, R191, R192: RESTART_RESET once the RESTART reply is the only one left, on quiet lines, with every miss
count below the MISS_LIMIT of a valid image. The encoder counts are kept when the RESTART was accepted in PARKED
or HALTED; the positions are kept too when the image is valid and carries the positional basis of the
configuration that was in force. The model's choice: notes/assumptions/3, 10, 17 and 32 (the time of the last
byte; the mark to be sought again; when the reset may take effect; the end of the range forgotten). -/
def Obligations.RestartResetKeepsCountsAndPositions : Prop :=
  ∀ (lines : LineLevels) (s : State) (keep : Bool), s.powered = true → quietLines lines = true →
    s.hlc.drain = .on keep → s.hlc.places.length = 1 → s.hlc.tx = .reply → s.cfs.write = none →
    (s.cfs.image.valid = true → 1 ≤ s.cfs.image.content.params.missLimit ∧
      ∀ conv, ((convTrack s conv).misses : Int) < s.cfs.image.content.params.missLimit) →
    let kept : Bool := keep && s.cfs.image.valid && (match s.cfs.inForce with
      | some c => sameBasis c s.cfs.image.content
      | none => false)
    let drum (t : DrumTrack) : DrumTrack := DrumTrack.fresh (if keep then t.count else 0) false
    let conv (c : ConvTrack) : ConvTrack :=
      if kept then { c with dir := none, expected := none, aimDue := true } else ConvTrack.fresh
    exec (.restartReset lines) s = .next
      { partAfterReset lines s.cfs.image s.pending with
        dpt := {
          drum1 := drum s.dpt.drum1
          drum2 := drum s.dpt.drum2
          cage := conv s.dpt.cage
          counterweight := conv s.dpt.counterweight
          skip := conv s.dpt.skip
          linkError := none } }

/-! ## The host link -/

/-- R173 to R175: a byte moves the hunter by the table; one that arrives more than 25 ms after the byte before it is
taken in HUNT; and while the restart drain is on a byte changes nothing. A frame discarded at CHECK, a gap of 25
ms in a partial frame and a framing error put the hunter in HUNT and change nothing else but the clock and the
time of the last byte, each as its event gives it. The model's choice: notes/assumptions/1 and 5 (the clock at
the end of a gap; the time kept of the last byte). -/
def Obligations.HostByteMovesHunter : Prop :=
  (∀ (b : Byte) (s : State), s.powered = true →
    (s.hlc.drain = .off → s.now ≤ s.hlc.lastByte + 25 →
      (∀ len kind tag bytes, s.hlc.hunter ≠ .check len kind tag bytes) →
      exec (.hostByteTaken b) s = .next { s with hlc := { s.hlc with
        hunter := hunterTable s.hlc.hunter b, lastByte := s.now } }) ∧
    (s.hlc.drain = .off → s.hlc.lastByte + 25 < s.now →
      exec (.hostByteTaken b) s = .next { s with hlc := { s.hlc with
        hunter := hunterTable .hunt b, lastByte := s.now } }) ∧
    (∀ keep, s.hlc.drain = .on keep → exec (.hostByteTaken b) s = .next s)) ∧
  (∀ s : State, s.powered = true →
    (s.hlc.drain = .off → exec .hostFrameDiscarded s = .next { s with
      hlc := { s.hlc with hunter := .hunt, lastByte := s.now } }) ∧
    (s.hlc.hunter ≠ .hunt → exec .byteGapTimeout s = .next { s with
      now := max s.now (s.hlc.lastByte + 25) % 2 ^ 48, hlc := { s.hlc with hunter := .hunt } }) ∧
    (s.hlc.hunter = .hunt → exec .byteGapTimeout s = .next s) ∧
    exec .framingError s = .next { s with hlc := { s.hlc with hunter := .hunt } })

/-- R175: the check value by its definition; the CHECK byte judges a frame, which is taken as its command if
well-formed and otherwise discarded with the hunter in HUNT; and a frame sent ends with the check value of its
LEN, KIND, TAG and BODY. -/
def Obligations.FramesAreJudgedByTheirCheckValue : Prop :=
  (∀ bytes : List Byte, (frameCheck bytes).toNat = bytes.foldl registerByte 0xFF) ∧
  (∀ (i : Instr) (s : State) (len kind tag b : Byte) (bytes : List Byte), s.powered = true →
    s.hlc.drain = .off → s.now ≤ s.hlc.lastByte + 25 → s.hlc.hunter = .check len kind tag bytes →
    hostFrame i = some (kind, tag, bytes) →
    (b = frameCheck ([len, kind, tag] ++ bytes) → exec (.hostByteTaken b) s = exec i s) ∧
    (b ≠ frameCheck ([len, kind, tag] ++ bytes) → exec (.hostByteTaken b) s = .next { s with
      hlc := { s.hlc with hunter := .hunt, lastByte := s.now } })) ∧
  (∀ (kind tag : Byte) (body : List Byte), frame kind tag body = [0xD2, 0x4E] ++
    ([BitVec.ofNat 8 body.length, kind, tag] ++ body) ++
    [frameCheck ([BitVec.ofNat 8 body.length, kind, tag] ++ body)])

/-- R178, R201: a frame whose KIND names no request is answered UNKNOWN_KIND, and one whose LEN does not suit
its KIND BAD_LENGTH; neither changes anything but the receive buffer. -/
def Obligations.UnfitFramesAreAnsweredByTheLink : Prop :=
  ∀ (i : Instr) (s : State) (kind tag : Byte) (body : List Byte), linkOpen s = true →
    hostFrame i = some (kind, tag, body) →
    (requestLengths kind = none →
      exec i s = .next { s with hlc := answered s kind tag [0x01] }) ∧
    (∀ lens, requestLengths kind = some lens → body.length ∉ lens →
      exec i s = .next { s with hlc := answered s kind tag [0x02] })

/-- R177, R181: a frame that finds all 4 frame places occupied is refused LINK_FULL in a refusal place, and one that
finds those occupied too is discarded; the block it names does nothing. A notice joins the tail of a queue of
fewer than 32, with its "preceded by loss" mark exactly where the loss flag is pending, which it clears; a
notice that finds 32 is lost and leaves the flag pending. The model's choice: notes/assumptions/5 (what a taken
frame leaves in the hunter). -/
def Obligations.BuffersOverflowByRule : Prop :=
  (∀ (i : Instr) (s : State) (kind tag : Byte) (body : List Byte), s.powered = true →
    s.hlc.drain = .off → framePlaces s.hlc = 4 → s.hlc.tx ≠ .idle →
    hostFrame i = some (kind, tag, body) →
    (refusalPlaces s.hlc < 4 → exec i s = .next { s with hlc := { s.hlc with
      hunter := .hunt, lastByte := s.now
      places := s.hlc.places ++ [⟨true, kind, tag, [0x11]⟩] } }) ∧
    (refusalPlaces s.hlc = 4 → exec i s = .next { s with hlc := { s.hlc with
      hunter := .hunt, lastByte := s.now } })) ∧
  (∀ (n : Notice) (s : State), s.hlc.tx ≠ .idle →
    (s.hlc.notices.length < 32 → notify n s = { s with hlc := { s.hlc with
      notices := s.hlc.notices ++ [⟨n, s.hlc.lossFlag⟩], lossFlag := false } }) ∧
    (32 ≤ s.hlc.notices.length → notify n s = { s with hlc := { s.hlc with lossFlag := true } }))

/-- R180: at the end of a frame the place of the reply sent becomes empty, and the transmitter takes the reply
formed earliest, else the notice at the head of the queue, which leaves it, else idles. The model's choice:
notes/assumptions/16 (the byte times of a frame are left out). -/
def Obligations.TransmitterServesRepliesFirst : Prop :=
  ∀ s : State, s.powered = true → s.hlc.drain = .off → s.hlc.tx ≠ .idle →
    let left := if s.hlc.tx = .reply then s.hlc.places.tail else s.hlc.places
    (left ≠ [] → exec .transmitComplete s = .next { s with
      hlc := { s.hlc with places := left, tx := .reply } }) ∧
    (∀ q rest, left = [] → s.hlc.notices = q :: rest → exec .transmitComplete s = .next { s with
      hlc := { s.hlc with places := [], tx := .notice q, notices := rest } }) ∧
    (left = [] → s.hlc.notices = [] → exec .transmitComplete s = .next { s with
      hlc := { s.hlc with places := [], tx := .idle } })

/-! ## Commissioning -/

/-- R194, R195: SET_PARAM in COMMISSION, with no store write in flight, writes a known parameter to a value in its
range in the working configuration and leaves every other parameter; CLEAR_CONFIG returns the working
configuration to its defaults. Both leave the configuration in force. -/
def Obligations.SetParamAndClearConfigWrite : Prop :=
  (∀ (s : State) (tag : Byte) (n : Nat) (v : Int) (r : ParamRow) (c : Configuration), linkOpen s = true →
    s.msq.winder = .commission → s.cfs.write = none → s.cfs.working = some c →
    paramRow n = some r → r.low ≤ v → v ≤ r.high →
    ∃ p : Params, paramGet p n = v ∧ (∀ m, m ≠ n → paramGet p m = paramGet c.params m) ∧
      exec (.setParam tag (put8 n ++ put32 v)) s = .next { s with
        hlc := answered s 0x01 tag [0x00]
        cfs := { s.cfs with working := some { c with params := p } } }) ∧
  (∀ (s : State) (tag : Byte) (c : Configuration), linkOpen s = true → s.msq.winder = .commission →
    s.cfs.write = none → s.cfs.working = some c →
    exec (.clearConfig tag []) s = .next { s with
      hlc := answered s 0x08 tag [0x00]
      cfs := { s.cfs with working := some defaultConfiguration } })

/-- R194: PUT_LEVEL and PUT_ZONE in COMMISSION write the one entry they name into the working configuration. -/
def Obligations.PutLevelAndZoneWriteOneEntry : Prop :=
  ∀ (s : State) (tag : Byte) (n : Nat) (c : Configuration), linkOpen s = true →
    s.msq.winder = .commission → s.cfs.write = none → s.cfs.working = some c →
    (∀ (on : Bool) (cage skip : Option Int), n ≤ 39 → (cage.isSome || skip.isSome) = true →
      (∀ d, cage = some d ∨ skip = some d → -3000 ≤ d ∧ d ≤ 400000) →
      ∃ t : Table LevelEntry, tableGet n t = some ⟨on, cage, skip⟩ ∧
        (∀ m, m ≠ n → tableGet m t = tableGet m c.levels) ∧
        exec (.putLevel tag (put8 n ++ put8 1 ++ putBool on ++ putOpt32 cage ++ putOpt32 skip)) s =
          .next { s with
            hlc := answered s 0x02 tag [0x00]
            cfs := { s.cfs with working := some { c with levels := t } } }) ∧
    (∀ (z : ZoneEntry), 1 ≤ n → n ≤ 24 → -3000 ≤ z.start → z.start ≤ 400000 → 1 ≤ z.range →
      z.range ≤ 400000 → z.ceiling ≤ 2000 →
      ∃ t : Table ZoneEntry, tableGet n t = some z ∧
        (∀ m, m ≠ n → tableGet m t = tableGet m c.zones) ∧
        exec (.putZone tag (put8 n ++ put8 1 ++ put8 (compNumber z.comp) ++ put32 z.start ++
          put32 z.range ++ put16 z.ceiling ++ putBool z.enabled)) s = .next { s with
            hlc := answered s 0x03 tag [0x00]
            cfs := { s.cfs with working := some { c with zones := t } } })

/-- R194: PUT_RETARD_ROW and PUT_MARK in COMMISSION write the one row or depth they name into the table of the drum or
compartment they name, and leave the other tables. PUT_STATION writes the one entry it names; a level is
present for every role but CAGE_PANEL and absent for CAGE_PANEL. -/
def Obligations.PutRetardRowMarkAndStationWrite : Prop :=
  (∀ (s : State) (tag : Byte) (n : Nat) (c : Configuration), linkOpen s = true →
    s.msq.winder = .commission → s.cfs.write = none → s.cfs.working = some c →
    (∀ (d : Drum) (r : RetardRow), 1 ≤ n → n ≤ 8 → 1 ≤ r.distance → r.distance ≤ 400000 →
      r.ceiling ≤ 2000 →
      ∃ t : Table RetardRow, tableGet n t = some r ∧
        (∀ m, m ≠ n → tableGet m t = tableGet m (retardOf c d)) ∧
        exec (.putRetardRow tag (put8 (drumNumber d) ++ put8 n ++ put8 1 ++ put32 r.distance ++
          put16 r.ceiling)) s = .next { s with
            hlc := answered s 0x04 tag [0x00]
            cfs := { s.cfs with working := some (match d with
              | .d1 => { c with retard1 := t }
              | .d2 => { c with retard2 := t }) } }) ∧
    (∀ (comp : Compartment) (depth : Int), 1 ≤ n → n ≤ 12 → -3000 ≤ depth → depth ≤ 400000 →
      ∃ t : Table Int, tableGet n t = some depth ∧
        (∀ m, m ≠ n → tableGet m t = tableGet m (marksOf c comp)) ∧
        exec (.putMark tag (put8 (compNumber comp) ++ put8 n ++ put8 1 ++ put32 depth)) s =
          .next { s with
            hlc := answered s 0x05 tag [0x00]
            cfs := { s.cfs with working := some (match comp with
              | .c => { c with marksC := t }
              | .w => { c with marksW := t }
              | .s => { c with marksS := t }) } })) ∧
  (∀ (s : State) (tag : Byte) (n : Nat) (c : Configuration) (e : StationEntry), linkOpen s = true →
    s.msq.winder = .commission → s.cfs.write = none → s.cfs.working = some c → 1 ≤ n → n ≤ 24 →
    (e.role = .cagePanel ∧ e.level = none ∨
      e.role ≠ .cagePanel ∧ ∃ l, e.level = some l ∧ l ≤ 39) →
    ∃ t : Table StationEntry, tableGet n t = some e ∧
      (∀ m, m ≠ n → tableGet m t = tableGet m c.stations) ∧
      exec (.putStation tag (put8 n ++ put8 1 ++ put8 (roleNumber e.role) ++ putLevelNumber e.level ++
        putMask e.mask)) s = .next { s with
          hlc := answered s 0x06 tag [0x00]
          cfs := { s.cfs with working := some { c with stations := t } } })

/-- R194, R198: the remove forms of the five PUT requests make the item they name absent, whatever their entry
fields hold, and leave every other item: a level from 0 on, a zone, a row of either drum's retard table, a mark
of any of the three compartments, a station. -/
def Obligations.PutRequestsRemoveOneItem : Prop :=
  ∀ (s : State) (tag : Byte) (n : Nat) (c : Configuration) (fields : List Byte), linkOpen s = true →
    s.msq.winder = .commission → s.cfs.write = none → s.cfs.working = some c →
    let written (kind : Byte) (w : Configuration) : State := { s with
      hlc := answered s kind tag [0x00], cfs := { s.cfs with working := some w } }
    (n ≤ 39 → fields.length = 9 → ∃ t : Table LevelEntry, tableGet n t = none ∧
      (∀ m, m ≠ n → tableGet m t = tableGet m c.levels) ∧
      exec (.putLevel tag (put8 n ++ put8 0 ++ fields)) s = .next (written 0x02 { c with levels := t })) ∧
    (1 ≤ n → n ≤ 24 → fields.length = 12 → ∃ t : Table ZoneEntry, tableGet n t = none ∧
      (∀ m, m ≠ n → tableGet m t = tableGet m c.zones) ∧
      exec (.putZone tag (put8 n ++ put8 0 ++ fields)) s = .next (written 0x03 { c with zones := t })) ∧
    (∀ d : Drum, 1 ≤ n → n ≤ 8 → fields.length = 6 → ∃ t : Table RetardRow, tableGet n t = none ∧
      (∀ m, m ≠ n → tableGet m t = tableGet m (retardOf c d)) ∧
      exec (.putRetardRow tag (put8 (drumNumber d) ++ put8 n ++ put8 0 ++ fields)) s =
        .next (written 0x04 (match d with
          | .d1 => { c with retard1 := t }
          | .d2 => { c with retard2 := t }))) ∧
    (∀ comp : Compartment, 1 ≤ n → n ≤ 12 → fields.length = 4 → ∃ t : Table Int, tableGet n t = none ∧
      (∀ m, m ≠ n → tableGet m t = tableGet m (marksOf c comp)) ∧
      exec (.putMark tag (put8 (compNumber comp) ++ put8 n ++ put8 0 ++ fields)) s =
        .next (written 0x05 (match comp with
          | .c => { c with marksC := t }
          | .w => { c with marksW := t }
          | .s => { c with marksS := t }))) ∧
    (1 ≤ n → n ≤ 24 → fields.length = 5 → ∃ t : Table StationEntry, tableGet n t = none ∧
      (∀ m, m ≠ n → tableGet m t = tableGet m c.stations) ∧
      exec (.putStation tag (put8 n ++ put8 0 ++ fields)) s =
        .next (written 0x06 { c with stations := t }))

/-- R151, R156, R194: SET_PROTECTION writes the one row it names, which its table allows, and leaves every other
row; for MARK_MISSED it also records whether the row is treated as OFF, and OFF takes a MARK_MISSED entry out of
a list that holds nothing else. -/
def Obligations.SetProtectionWritesAllowedRow : Prop :=
  (∀ (p : Protection) (r : ProtRow) (c : Configuration),
    (setProtRow p r c).protections[protIdx p] = r ∧
    (∀ q, q ≠ p → (setProtRow p r c).protections[protIdx q] = c.protections[protIdx q]) ∧
    setProtRow p r c = { c with protections := (setProtRow p r c).protections }) ∧
  ∀ (s : State) (tag : Byte) (p : Protection) (r : ProtRow) (c : Configuration), linkOpen s = true →
    s.msq.winder = .commission → s.cfs.write = none → s.cfs.working = some c →
    r.action ∈ actionsAllowed p → r.recovery ∈ recoveriesAllowed p → 1 ≤ r.retryTime → r.retryTime ≤ 60 →
    let request : Instr := .setProtection tag (put8 (protNumber p) ++ put8 (actionNumber r.action) ++
      put8 (recoveryNumber r.recovery) ++ put8 r.retryTime)
    let written : State := { s with
      hlc := answered s 0x07 tag [0x00]
      cfs := { s.cfs with working := some (setProtRow p r c) } }
    (p ≠ .markMissed → exec request s = .next written) ∧
    (p = .markMissed → (r.action ≠ .off ∨ entryOf s .markMissed = none) →
      exec request s = .next { written with prt := { s.prt with missedOff := decide (r.action = .off) } }) ∧
    (∀ e, p = .markMissed → r.action = .off → s.prt.entries = [e] → e.prot = .markMissed →
      e.action = .report → exec request s = .next { written with
        hlc := queueAll [.fault .removed (some .config) { e with deadline := none } 0 0 false] written.hlc
        prt := { s.prt with entries := [], firstOut := none, missedOff := true } })

/-- R189, R194, R196: every commissioning request of a fitting length is refused BUSY during a store write, and
otherwise WRONG_STATE outside COMMISSION. A COMMIT whose working configuration fails a check is answered
INVALID_CONFIG with the check and the item: the first of the ten checks that an item fails, and the lowest item
that fails it, by the conditions and the item indices of R196's table. A refused request changes nothing but the
receive buffer. The model's choice: notes/assumptions/20 (of two items that clash the later is named). -/
def Obligations.CommissioningRefusals : Prop :=
  (∀ (i : Instr) (s : State) (kind tag : Byte) (body : List Byte) (lens : List Nat), linkOpen s = true →
    hostFrame i = some (kind, tag, body) → commissioningKind kind = true →
    requestLengths kind = some lens → body.length ∈ lens →
    (s.cfs.write ≠ none → exec i s = .next { s with hlc := answered s kind tag [0x0E] }) ∧
    (s.cfs.write = none → s.msq.winder ≠ .commission →
      exec i s = .next { s with hlc := answered s kind tag [0x03] })) ∧
  (∀ (s : State) (tag : Byte) (c : Configuration), linkOpen s = true → s.msq.winder = .commission →
    s.cfs.write = none → s.cfs.working = some c →
    ∀ check item, commitFailure c = some (check, item) → exec (.commit tag []) s = .next { s with
      hlc := answered s 0x09 tag ([0x10] ++ put8 check ++ put8 item) }) ∧
  (∀ c : Configuration, tablesSound c = true → (∀ comp, ∀ p ∈ marksOf c comp, p.1 ≤ 12) →
    ∀ check item, commitFailure c = some (check, item) ↔
      itemFails c check item ∧ (∀ i, i < item → ¬ itemFails c check i) ∧
        ∀ k i, k < check → ¬ itemFails c k i)

/-- R24, R54, R84, R121, R172, R192, R197: a COMMIT that passes every check puts the working configuration in force,
parks the winder, or trips it under an EMERGENCY entry, and leaves the stations UNHEARD, the counts and the
image. Positions are kept, with the next-expected mark absent, where the configuration in force before carries
the same positional basis, and otherwise UNKNOWN; the speeds are computed afresh and the origin statuses set
afresh. Every entry but that of MARK_MISSED is brought into line with its row: removed, or changed in its place.
On an empty list with every miss count below MISS_LIMIT lines, presence records and queue stay; with an empty
queue the one notice is then WINDER with cause COMMIT. The model's choice: notes/assumptions/10, 36 and 43 (the
mark to be sought again; an entry that stays takes the RETRY_TIME of its row; the speed under an asserted fault
line). -/
def Obligations.CommitPutsConfigurationInForce : Prop :=
  ∀ (s : State) (tag : Byte) (c : Configuration), linkOpen s = true → s.msq.winder = .commission →
    s.cfs.write = none → s.cfs.working = some c → commitFailure c = none → s.pfu.staged = [] →
    (s.prt.entries.map (fun e => e.prot)).Nodup →
    let keep : Bool := match s.cfs.inForce with
      | some old => sameBasis old c
      | none => false
    let conv (x : ConvTrack) : ConvTrack :=
      if keep then { x with expected := none, aimDue := true } else ConvTrack.fresh
    let drum (d : Drum) (x : DrumTrack) : DrumTrack := { x with
      speed := ((x.history.headD 0 - x.history.getLastD 0) * 10000).tdiv (scaleOf c.params d) }
    ∃ t, exec (.commit tag []) s = .next t ∧
      t.cfs = { s.cfs with inForce := some c, working := none } ∧
      t.dpt = {
        drum1 := drum .d1 s.dpt.drum1
        drum2 := drum .d2 s.dpt.drum2
        cage := conv s.dpt.cage
        counterweight := conv s.dpt.counterweight
        skip := conv s.dpt.skip
        linkError := none } ∧
      (∀ v, v ≠ .counterweight → originOf t.tqm v =
        if (drumTrack s (convDrum v)).standstill = false ∨ posOf t v = .unknown then .unset
        else match currentLevel c v (depthOf t v) with
          | some n => .atLevel n
          | none => .outside) ∧
      (keep = false ∨ s.tqm.trips = [] → t.tqm.trips = s.tqm.trips) ∧
      t.msq.winder = (if holdsAction .emergency t.prt.entries then .tripped else .parked) ∧
      t.msq.ceiling = ⟨0, .none, none, none⟩ ∧
      (∀ n, stationOf t n = (tableGet n c.stations).map (fun _ => Station.unheard)) ∧
      t.hlc.places = s.hlc.places ++ [⟨false, 0x09, tag, [0x00]⟩] ∧ t.pfu = s.pfu ∧ t.now = s.now ∧
      t.prt.missedOff = false ∧
      (s.cpl.block = holdsAction .emergency s.prt.entries →
        t.cpl.block = holdsAction .emergency t.prt.entries) ∧
      (s.prt.entries = [] → presence s .markMissed = 0 →
        (∀ v, ((convTrack t v).misses : Int) < c.params.missLimit) →
        t.prt = { s.prt with missedOff := false, firstOut := none } ∧ t.cpl = s.cpl ∧
        (s.tqm.trips = [] → s.msq.current = none → s.msq.ceiling = ⟨0, .none, none, none⟩ →
          t.hlc = queueAll [.winder .commit .commission .parked 0 0] (answered s 0x09 tag [0x00]))) ∧
      (∀ e ∈ s.prt.entries, e.prot ≠ .markMissed →
        let row : ProtRow := c.protections[protIdx e.prot]
        let present : SubjectSet := e.subjects &&& presence s e.prot
        let aligned : FaultEntry := { e with
          action := row.action, recovery := row.recovery, retryTime := row.retryTime }
        let held : FaultEntry := { aligned with isHeld := decide (present = 0) }
        (row.action = .off → entryOf t e.prot = none) ∧
        (row.action ≠ .off → row.recovery = .self → entryOf t e.prot =
          if present = 0 then none
          else some { aligned with subjects := present, isHeld := false, deadline := none }) ∧
        (row.action ≠ .off → row.recovery = .latched →
          entryOf t e.prot = some { held with deadline := none }) ∧
        (row.action ≠ .off → row.recovery = .retry → entryOf t e.prot = some { held with
          deadline := if present = 0 then some (e.deadline.getD (s.now + row.retryTime * 1000))
            else none }))

/-! ## Trips -/

/-- R50, R52, R56 to R58, R79: a REQUEST_TRIP that passes the checks of R57 is answered with the id, and the
trip joins the tail of the queue with the required set of its kind, ORIGIN held by waiver where the origin
status is OUTSIDE, READY if the sets are then equal; the id is new, and the last id plus 1 where that is free. -/
def Obligations.RequestTripAdmitsTrip : Prop :=
  ∀ (s : State) (tag : Byte) (conv : Conveyance) (kind : Kind) (level : Nat) (e : LevelEntry),
    linkOpen s = true → s.msq.winder ≠ .commission → s.tqm.trips.length < 16 →
    ((conv, kind) = (.cage, .personnel) ∨ (conv, kind) = (.cage, .material) ∨
      (conv, kind) = (.skip, .rock) ∨ (conv, kind) = (.cage, .inspect)) →
    level ≤ 39 → tableGet level (cfg s).levels = some e → e.enabled = true →
    (entryStop e conv).isSome = true →
    (∀ t ∈ s.tqm.trips, ¬(t.conv = conv ∧ t.dest = some level)) → posOf s conv ≠ .unknown →
    (conv = .cage → ∀ d, e.cage = some d →
      (cfg s).params.cwTop ≤ (cfg s).params.linkSum - d ∧
      (cfg s).params.linkSum - d ≤ (cfg s).params.cwBottom) →
    let outside : Bool := decide (originOf s.tqm conv = .outside)
    let required : Confs := match kind with
      | .personnel => ⟨true, true, true, false⟩
      | .material => ⟨true, false, true, false⟩
      | .rock => ⟨true, false, false, false⟩
      | .inspect => ⟨false, false, true, true⟩
      | .search => ⟨false, false, true, false⟩
    ∃ id, 1 ≤ id ∧ id ≤ 255 ∧ (∀ t ∈ s.tqm.trips, t.id ≠ id) ∧
      (s.tqm.lastId < 255 → (∀ t ∈ s.tqm.trips, t.id ≠ s.tqm.lastId + 1) → id = s.tqm.lastId + 1) ∧
      let t : Trip := {
        id := id, kind := kind, conv := conv, dest := some level, requester := 0, required := required
        held := ⟨required.origin && outside, false, false, false⟩
        state := if kind = .rock ∧ outside = true then .ready else .pending
        requestedAt := s.now, orphaned := false, step := 0 }
      exec (.requestTrip tag (put8 (convNumber conv) ++ put8 (kindNumber kind) ++ put8 level)) s =
        .next { s with
          hlc := queueAll [.trip .admitted t none] (answered s 0x10 tag ([0x00] ++ put8 id))
          tqm := { s.tqm with trips := s.tqm.trips ++ [t], lastId := id } }

/-- R60, R61: CONFIRM_TRIP gives CONSOLE to a PENDING trip that requires and lacks it, which becomes READY if its
sets are then equal; a waiting trip that holds it already is not changed. -/
def Obligations.ConfirmTripGivesConsole : Prop :=
  ∀ (s : State) (tag : Byte) (t : Trip), linkOpen s = true → s.msq.winder ≠ .commission → t.id ≤ 255 →
    s.tqm.trips.filter (fun u => decide (u.id = t.id)) = [t] → t.required.console = true →
    let held : Confs := { t.held with console := true }
    let after : Trip := { t with
      held := held, state := if held = t.required then .ready else .pending }
    (t.state = .pending → t.held.console = false →
      exec (.confirmTrip tag (put8 t.id)) s = .next { s with
        hlc := queueAll [.trip .confirmed after none] (answered s 0x11 tag
          ([0x00] ++ put8 (if held = t.required then 2 else 1)))
        tqm := { s.tqm with
          trips := s.tqm.trips.map (fun u => if u.id = t.id then after else u) } }) ∧
    (waiting t = true → t.held.console = true →
      exec (.confirmTrip tag (put8 t.id)) s = .next { s with
        hlc := answered s 0x11 tag ([0x00] ++ put8 (if t.state = .pending then 1 else 2)) })

/-- R19, R68, R77, R106, R118, R122: WITHDRAW_TRIP removes a waiting trip, WITHDRAWN with reason CONSOLE, and with a
SEARCH trip its search record; an ACTIVE trip is refused. The withdrawal of the SUSPENDED trip takes the winder
from HALTED to PARKED, where there is no current trip, the ceiling is 0 with source NONE, and the staged edits
are applied to the configuration in force in buffer order. -/
def Obligations.WithdrawTripRemovesTrip : Prop :=
  (∀ (s : State) (tag : Byte) (t : Trip), linkOpen s = true → s.msq.winder ≠ .commission → t.id ≤ 255 →
    s.tqm.trips.filter (fun u => decide (u.id = t.id)) = [t] →
    (waiting t = true → exec (.withdrawTrip tag (put8 t.id)) s = .next { s with
      hlc := queueAll [.trip .removed t (some (.withdrawn .console))] (answered s 0x12 tag [0x00])
      tqm := { s.tqm with trips := s.tqm.trips.filter (fun u => !decide (u.id = t.id)) }
      msq := { s.msq with
        search1 := if t.kind = .search ∧ tripDrum t = .d1 then none else s.msq.search1
        search2 := if t.kind = .search ∧ tripDrum t = .d2 then none else s.msq.search2 } }) ∧
    (t.state = .active → exec (.withdrawTrip tag (put8 t.id)) s = .next { s with
      hlc := answered s 0x12 tag [0x0C] })) ∧
  (∀ (s : State) (tag : Byte) (t : Trip), linkOpen s = true → s.msq.winder = .halted → t.id ≤ 255 →
    s.tqm.trips.filter (fun u => decide (u.id = t.id)) = [t] → t.state = .suspended →
    ∃ u, exec (.withdrawTrip tag (put8 t.id)) s = .next u ∧
      u.msq.winder = .parked ∧ u.msq.current = none ∧ u.msq.ceiling = ⟨0, .none, none, none⟩ ∧
      u.tqm = { s.tqm with trips := s.tqm.trips.filter (fun v => !decide (v.id = t.id)) } ∧
      u.pfu.staged = [] ∧
      u.cfs = { s.cfs with
        inForce := s.cfs.inForce.map (fun c => s.pfu.staged.foldl writeEdit c) } ∧
      u.hlc.places = s.hlc.places ++ [⟨false, 0x12, tag, [0x00]⟩] ∧
      u.slc = s.slc ∧ u.dpt = s.dpt ∧ u.cpl = s.cpl ∧ u.prt = s.prt ∧ u.now = s.now)

/-! ## START and STOP -/

/-- R71 to R74, R87, R108, R110, R111: START of a READY trip in PARKED, or of the SUSPENDED trip in HALTED, its
drum's clutch ENGAGED and the other FREE, on a path that shows nothing: the trip is ACTIVE and current, the phase
PROVING, DRV asserted, the ceiling 0 with source BRAKED, TORQUE_DELAY running; a search starts its record
afresh from READY and keeps it from SUSPENDED; the origin station is the source of ORIGIN where the conveyance
lies within LEAVE_DISTANCE of its stop, and the path holds it with the stations of the span; the permits, the
clutches, positions, faults and configuration stay. -/
def Obligations.StartEntersProving : Prop :=
  ∀ (s : State) (tag : Byte) (t : Trip) (body : List Byte), linkOpen s = true →
    (∀ e ∈ s.prt.entries, e.action ≠ .emergency ∧ e.action ≠ .controlled) →
    (∀ u ∈ s.tqm.trips, u.id ≠ t.id → waiting u = true) →
    s.tqm.trips.filter (fun u => decide (u.id = t.id)) = [t] → t.id ≤ 255 → mayRun s t = true →
    (s.msq.winder = .parked ∧ t.state = .ready ∧ (body = put8 t.id ∨ body = [] ∧ arbitrate s = some t) ∨
      s.msq.winder = .halted ∧ t.state = .suspended ∧ (body = put8 t.id ∨ body = [])) →
    (clutchOf s (tripDrum t)).state = .engaged →
    (clutchOf s (otherDrum (tripDrum t))).state = .free → s.cpl.block = false → quietStations s →
    tableSorted (cfg s).stations = true →
    ∃ u, exec (.start tag body) s = .next u ∧
      u.msq.winder = .running .proving ∧ u.msq.current = some t.id ∧
      u.msq.ceiling = ⟨0, .braked, none, none⟩ ∧
      u.msq.phaseTimer = some (.torque (s.now + (cfg s).params.torqueDelay.toNat)) ∧
      u.cpl = { s.cpl with drv := true } ∧
      u.tqm.trips =
        s.tqm.trips.map (fun v => if v.id = t.id then { v with state := .active } else v) ∧
      (∀ stop, t.kind ≠ .search → tripStop s t = some stop →
        u.msq.direction = some (if depthOf s t.conv ≤ stop then .down else .up)) ∧
      (∀ r, t.kind = .search → searchOf s (tripDrum t) = some r →
        let taken : SearchRec :=
          if t.state = .ready then ⟨r.assumed, r.first, r.first, false, false⟩ else r
        u.msq.direction = some taken.dir ∧ searchOf u (tripDrum t) = some taken) ∧
      (∀ n, u.slc.originStation = some n ↔ originSource s t.conv = some n ∧ nearStation s t n) ∧
      pathByRule s t u.slc.originStation u.slc.path ∧
      u.hlc.places = s.hlc.places ++ [⟨false, 0x13, tag, [0x00] ++ put8 t.id⟩] ∧
      u.slc.stations = s.slc.stations ∧ u.pfu = s.pfu ∧ u.dpt = s.dpt ∧ u.prt = s.prt ∧
      u.cfs = s.cfs ∧ u.now = s.now

/-- R108, R109, R138, R139: START of a READY trip with the clutch of the other drum not FREE enters CHANGEOVER and
drives the release of that clutch; with that clutch FREE and the trip drum's clutch not ENGAGED it drives the
engagement. The movement's command, clutch state and timer are set, and every other line stays. -/
def Obligations.StartEntersChangeover : Prop :=
  ∀ (s : State) (tag : Byte) (t : Trip), linkOpen s = true → s.msq.winder = .parked →
    (∀ e ∈ s.prt.entries, e.action ≠ .emergency ∧ e.action ≠ .controlled) →
    (∀ u ∈ s.tqm.trips, waiting u = true) → s.tqm.trips.filter (fun u => decide (u.id = t.id)) = [t] →
    t.state = .ready → t.id ≤ 255 → mayRun s t = true → quietStations s →
    presence s .clutchMismatch = 0 → s.cpl.block = false → s.cpl.brk1 = false → s.cpl.brk2 = false →
    s.cpl.drv = false → s.cpl.changeover = none →
    let d := tripDrum t
    let timer : Option Nat := some (s.now + (cfg s).params.clutchTime.toNat * 1000)
    let released : Cpl := match d with
      | .d1 => { s.cpl with
          dis2 := true, changeover := some ⟨.d1, some .release⟩
          clutch2 := { s.cpl.clutch2 with state := .releasing, timer := timer } }
      | .d2 => { s.cpl with
          dis1 := true, changeover := some ⟨.d2, some .release⟩
          clutch1 := { s.cpl.clutch1 with state := .releasing, timer := timer } }
    let engaging : Cpl := match d with
      | .d1 => { s.cpl with
          eng1 := true, changeover := some ⟨.d1, some .engage⟩
          clutch1 := { s.cpl.clutch1 with state := .engaging, timer := timer } }
      | .d2 => { s.cpl with
          eng2 := true, changeover := some ⟨.d2, some .engage⟩
          clutch2 := { s.cpl.clutch2 with state := .engaging, timer := timer } }
    ((clutchOf s (otherDrum d)).state ≠ .free → (clutchOf s (otherDrum d)).reading ≠ .atFree →
      ∃ u, exec (.start tag (put8 t.id)) s = .next u ∧ u.msq.winder = .changeover ∧
        u.msq.current = some t.id ∧ u.cpl = released ∧ u.dpt = s.dpt ∧ u.prt = s.prt ∧
        u.cfs = s.cfs ∧ u.now = s.now) ∧
    ((clutchOf s (otherDrum d)).state = .free → (clutchOf s d).state ≠ .engaged →
      (clutchOf s d).reading ≠ .atEngaged →
      ∃ u, exec (.start tag (put8 t.id)) s = .next u ∧ u.msq.winder = .changeover ∧
        u.msq.current = some t.id ∧ u.cpl = engaging ∧ u.dpt = s.dpt ∧ u.prt = s.prt ∧
        u.cfs = s.cfs ∧ u.now = s.now)

/-- R71 to R73: the checks of START in their order, each with its refusal, and the trip it takes: the one named,
else the SUSPENDED one, else the READY PERSONNEL trip nearest the head that may run, else the READY trip of any
kind nearest the head that may run. The reply carries its id. CREEP and REPORT entries do not inhibit. The
model's choice: notes/assumptions/38 (trip id 0x00 is an id that no trip has). -/
def Obligations.StartChecksAndTakesOneTrip : Prop :=
  ∀ (s : State) (tag : Byte), linkOpen s = true →
    let refused (body : List Byte) (result : Byte) : Prop :=
      exec (.start tag body) s = .next { s with hlc := answered s 0x13 tag [result] }
    let taken (body : List Byte) (id : Nat) : Prop := ∃ u, exec (.start tag body) s = .next u ∧
      u.hlc.places = s.hlc.places ++ [⟨false, 0x13, tag, [0x00] ++ put8 id⟩]
    let mayTake (t : Trip) : Prop := t.kind = .search ∨
      posOf s t.conv ≠ .unknown ∧ (t.conv = .cage → posOf s .counterweight ≠ .unknown)
    let inhibits (e : FaultEntry) : Prop := e.action = .emergency ∨ e.action = .controlled
    let fit (t : Trip) : Prop := t.state = .ready ∧ mayTake t
    let only (t : Trip) : Prop := s.tqm.trips.filter (fun v => decide (v.id = t.id)) = [t]
    (∀ body : List Byte, body.length ≤ 1 →
      (s.msq.winder = .commission → refused body 0x03) ∧
      (s.msq.winder ≠ .commission → (∃ e ∈ s.prt.entries, inhibits e) → refused body 0x0D) ∧
      ((∀ e ∈ s.prt.entries, ¬ inhibits e) → s.msq.winder ≠ .parked → s.msq.winder ≠ .halted →
        refused body 0x03)) ∧
    ((∀ e ∈ s.prt.entries, ¬ inhibits e) → s.msq.winder = .parked ∨ s.msq.winder = .halted →
      (∀ id, id ≤ 255 → (∃ t ∈ s.tqm.trips, t.state = .suspended) →
        (∀ t ∈ s.tqm.trips, t.state = .suspended → t.id ≠ id) → refused (put8 id) 0x03) ∧
      (∀ id, id ≤ 255 → (∀ t ∈ s.tqm.trips, t.state = .suspended → t.id = id) →
        (∀ t ∈ s.tqm.trips, t.id ≠ id) → refused (put8 id) 0x09) ∧
      (∀ t, t.id ≤ 255 → only t → (∀ v ∈ s.tqm.trips, v.state = .suspended → v.id = t.id) →
        (t.state ≠ .ready → t.state ≠ .suspended → refused (put8 t.id) 0x0B) ∧
        (t.state = .ready ∨ t.state = .suspended →
          (¬ mayTake t → refused (put8 t.id) 0x08) ∧ (mayTake t → taken (put8 t.id) t.id))) ∧
      (∀ t, s.tqm.trips.filter (fun v => decide (v.state = .suspended)) = [t] →
        (¬ mayTake t → refused [] 0x08) ∧ (mayTake t → taken [] t.id)) ∧
      ((∀ t ∈ s.tqm.trips, t.state ≠ .suspended) →
        ((∀ t ∈ s.tqm.trips, t.state ≠ .ready) → refused [] 0x0B) ∧
        ((∃ t ∈ s.tqm.trips, t.state = .ready) → (∀ t ∈ s.tqm.trips, ¬ fit t) → refused [] 0x08) ∧
        (∀ t before after, s.tqm.trips = before ++ t :: after → fit t →
          (t.kind = .personnel ∧ (∀ v ∈ before, fit v → v.kind ≠ .personnel) ∨
            (∀ v ∈ s.tqm.trips, fit v → v.kind ≠ .personnel) ∧ ∀ v ∈ before, ¬ fit v) →
          taken [] t.id)))

/-- R114 to R116, R123: STOP in MOVING with the drum not at standstill begins STOPPING in stage DECELERATING under
a target of 0, the stop timer starting now; the reply carries the winder state. A raise that creates an entry
whose action is CONTROLLED does the same to the run. In SETTLING and STOPPING STOP is answered and changes
nothing, and where no trip is under way it is refused. -/
def Obligations.StopBeginsControlledStop : Prop :=
  (∀ (s : State) (t : Trip), s.msq.winder = .running .moving → currentTrip s = some t →
    atStandstill s (tripDrum t) = false → s.msq.ceiling.ramp = none →
    let stopped (u : State) : Prop :=
      u.msq = { s.msq with
        winder := .stopping .decelerating
        stopStart := some s.now
        ceiling := if s.msq.ceiling.value = 0 then ⟨0, .stop, some 0, none⟩
          else ⟨s.msq.ceiling.value, .ramp, some 0, some ⟨s.msq.ceiling.value, s.now, 0⟩⟩ } ∧
      u.slc = s.slc ∧ u.pfu = s.pfu ∧ u.dpt = s.dpt ∧ u.tqm = s.tqm ∧ u.cpl = s.cpl ∧
      u.cfs = s.cfs ∧ u.now = s.now
    (∀ tag : Byte, linkOpen s = true → ∃ u, exec (.stop tag []) s = .next u ∧ stopped u ∧
      u.hlc.places = s.hlc.places ++ [⟨false, 0x14, tag, [0x00, 0x04]⟩] ∧ u.prt = s.prt) ∧
    (∀ (p : Protection) (n : Nat), entryOf s p = none → actionInForce s p = .controlled →
      stopped (raise p n s) ∧ ∃ e, (raise p n s).prt.entries = s.prt.entries ++ [e] ∧ e.prot = p ∧
        e.action = .controlled ∧ e.subjects = setOne n ∧ e.raisedAt = s.now)) ∧
  ∀ (s : State) (tag : Byte), linkOpen s = true →
    (s.msq.winder = .running .settling →
      exec (.stop tag []) s = .next { s with hlc := answered s 0x14 tag [0x00, 0x03] }) ∧
    (∀ stage, s.msq.winder = .stopping stage →
      exec (.stop tag []) s = .next { s with hlc := answered s 0x14 tag [0x00, 0x04] }) ∧
    (s.msq.winder = .commission ∨ s.msq.winder = .parked ∨ s.msq.winder = .halted ∨
      s.msq.winder = .tripped →
      exec (.stop tag []) s = .next { s with hlc := answered s 0x14 tag [0x03] })

/-- R76, R109, R110, R141: STOP in PROVING withdraws DRV, and STOP in CHANGEOVER releases the command of whichever
of the four movements is under way, if one is, and discards the changeover, the moving clutch becoming UNSURE;
the trip is SUSPENDED and the winder HALTED with the ceiling 0 and source NONE. R45: a search that has found its
mark is not suspended: it is removed, the winder parks, and the staged edits are applied. No permit, position or
fault changes on a part that shows no EMERGENCY entry, no path condition and no overspeed. The model's choice:
notes/assumptions/39 (the end of a found search in these two states). -/
def Obligations.StopBeforeMovingSuspendsTrip : Prop :=
  ∀ (s : State) (tag : Byte) (t : Trip), linkOpen s = true → s.msq.current = some t.id →
    s.tqm.trips.filter (fun u => decide (u.id = t.id)) = [t] → t.state = .active →
    (∀ u ∈ s.tqm.trips, u.id ≠ t.id → waiting u = true) → quietStations s →
    presence s .overspeed = 0 → (∀ e ∈ s.prt.entries, e.action ≠ .emergency) →
    let found : Prop := t.kind = .search ∧ ∃ r, searchOf s (tripDrum t) = some r ∧ r.found = true
    let common (u : State) (c : Cpl) (state : Byte) : Prop :=
      u.msq.ceiling = ⟨0, .none, none, none⟩ ∧ u.msq.excessStart = none ∧ u.cpl = c ∧
      u.slc = { s.slc with path := 0, originStation := none } ∧
      u.hlc.places = s.hlc.places ++ [⟨false, 0x14, tag, [0x00, state]⟩] ∧
      u.dpt = s.dpt ∧ u.prt = s.prt ∧ u.now = s.now
    let halted (u : State) (c : Cpl) : Prop :=
      common u c 0x05 ∧ u.msq.winder = .halted ∧ u.msq.current = some t.id ∧
      u.tqm.trips =
        s.tqm.trips.map (fun v => if v.id = t.id then { v with state := .suspended } else v) ∧
      u.pfu = s.pfu ∧ u.cfs = s.cfs
    let parked (u : State) (c : Cpl) : Prop :=
      common u c 0x01 ∧ u.msq.winder = .parked ∧ u.msq.current = none ∧
      u.msq.phaseTimer = none ∧ searchOf u (tripDrum t) = none ∧
      searchOf u (otherDrum (tripDrum t)) = searchOf s (otherDrum (tripDrum t)) ∧
      u.tqm.trips = s.tqm.trips.filter (fun v => !decide (v.id = t.id)) ∧ u.pfu.staged = [] ∧
      u.cfs = { s.cfs with
        inForce := s.cfs.inForce.map (fun c => s.pfu.staged.foldl writeEdit c) }
    let ends (u : State) (c : Cpl) : Prop := (¬ found → halted u c) ∧ (found → parked u c)
    let unsure (c : Clutch) : Clutch := { c with state := .unsure, timer := none }
    let stopped (target : Drum) (m : Movement) : Cpl := match target, m with
      | .d1, .release => { s.cpl with
          dis2 := false, changeover := none, clutch2 := unsure s.cpl.clutch2 }
      | .d1, .engage => { s.cpl with
          eng1 := false, changeover := none, clutch1 := unsure s.cpl.clutch1 }
      | .d2, .release => { s.cpl with
          dis1 := false, changeover := none, clutch1 := unsure s.cpl.clutch1 }
      | .d2, .engage => { s.cpl with
          eng2 := false, changeover := none, clutch2 := unsure s.cpl.clutch2 }
    (s.msq.winder = .running .proving → ∃ u, exec (.stop tag []) s = .next u ∧
      ends u { s.cpl with drv := false } ∧ u.msq.phaseTimer = none) ∧
    (∀ target m, s.msq.winder = .changeover → s.cpl.changeover = some ⟨target, some m⟩ →
      ∃ u, exec (.stop tag []) s = .next u ∧ ends u (stopped target m)) ∧
    (s.msq.winder = .changeover → (∀ target m, s.cpl.changeover ≠ some ⟨target, some m⟩) →
      ∃ u, exec (.stop tag []) s = .next u ∧ ends u { s.cpl with changeover := none })

/-! ## Faults -/

/-- R19, R120, R134, R159, R160, R166, R167, R169: CLEAR_FAULTS removes every HELD entry whose recovery is LATCHED or
RETRY, in list order, leaves every other entry and every presence record, and answers the two counts. An emptied
list clears the first-out record; a list that no longer holds a CREEP entry takes the creep clamp off; a list that
no longer holds an EMERGENCY entry clears the emergency block and takes a TRIPPED winder to PARKED, where the
staged edits are applied in buffer order and the buffer is emptied. -/
def Obligations.ClearFaultsRemovesHeldEntries : Prop :=
  ∀ (s : State) (tag : Byte), linkOpen s = true → (s.prt.entries.map (fun e => e.prot)).Nodup →
    let removed := s.prt.entries.filter (fun e => e.isHeld && !decide (e.recovery = .self))
    let left := s.prt.entries.filter (fun e => !(e.isHeld && !decide (e.recovery = .self)))
    let ended : Bool := holdsAction .emergency s.prt.entries && !holdsAction .emergency left
    let parks : Prop := ended = true ∧ s.msq.winder = .tripped
    ∃ u, exec (.clearFaults tag []) s = .next u ∧
      u.prt = { s.prt with
        entries := left, firstOut := if left = [] then none else s.prt.firstOut } ∧
      u.cpl = { s.cpl with block := if ended then false else s.cpl.block } ∧
      (parks → u.msq.winder = .parked ∧ u.msq.ceiling = ⟨0, .none, none, none⟩ ∧
        u.pfu.staged = [] ∧ u.cfs = { s.cfs with
          inForce := s.cfs.inForce.map (fun c => s.pfu.staged.foldl writeEdit c) }) ∧
      (¬ parks → u.msq.winder = s.msq.winder ∧ u.pfu = s.pfu ∧ u.cfs = s.cfs) ∧
      u.msq.creepClamp = (if holdsAction .creep s.prt.entries && !holdsAction .creep left then false
        else s.msq.creepClamp) ∧
      u.hlc.places = s.hlc.places ++
        [⟨false, 0x15, tag, [0x00] ++ put8 removed.length ++ put8 left.length⟩] ∧
      u.slc = s.slc ∧ u.dpt = s.dpt ∧ u.tqm = s.tqm ∧ u.now = s.now

/-! ## Reconciliation, edits, commissioning, store and restart -/

/-- R23, R41, R42, R46, R106: an accepted RECONCILE places the drum's reference conveyance at the assumed depth,
UNKNOWN with drift 0, starts its search record in the first direction, and adds a READY SEARCH trip of step 1
with CONSOLE held at the tail of the queue, whose id the reply carries. The count, the miss count, the lines,
the faults and the configuration stay. The model's choice: notes/assumptions/22 and 45 (the id in the reply; the
count a RECONCILE reads). -/
def Obligations.ReconcilePlacesSearch : Prop :=
  ∀ (s : State) (tag : Byte) (d : Drum) (assumed : Int) (dir : Dir), linkOpen s = true →
    s.msq.winder = .parked ∨ s.msq.winder = .tripped → -3000 ≤ assumed → assumed ≤ 400000 →
    (∀ t ∈ s.tqm.trips, waiting t = true ∧ t.held.origin = false ∧
      ¬(t.kind = .search ∧ tripDrum t = d)) → s.tqm.trips.length < 16 →
    ∃ u id, exec (.reconcile tag (put8 (drumNumber d) ++ put32 assumed ++ put8 (dirNumber (some dir)))) s =
        .next u ∧
      depthOf u (referenceConv d) = assumed ∧
      (convTrack u (referenceConv d)).drift = 0 ∧ posOf u (referenceConv d) = .unknown ∧
      (convTrack u (referenceConv d)).expected = none ∧
      (convTrack u (referenceConv d)).misses = (convTrack s (referenceConv d)).misses ∧
      (drumTrack u d).count = (drumTrack s d).count ∧
      searchOf u d = some ⟨assumed, dir, dir, false, false⟩ ∧
      searchOf u (otherDrum d) = searchOf s (otherDrum d) ∧
      (∀ t ∈ s.tqm.trips, t.id ≠ id) ∧ u.tqm.lastId = id ∧
      originOf u.tqm (referenceConv d) = .unset ∧
      u.tqm.trips = s.tqm.trips ++ [{
        id := id, kind := .search, conv := referenceConv d, dest := none, requester := 0
        required := ⟨false, false, true, false⟩, held := ⟨false, false, true, false⟩, state := .ready
        requestedAt := s.now, orphaned := false, step := 1 }] ∧
      u.hlc.places = s.hlc.places ++ [⟨false, 0x16, tag, [0x00] ++ put8 id⟩] ∧
      u.msq.winder = s.msq.winder ∧ u.slc = s.slc ∧ u.pfu = s.pfu ∧ u.cpl = s.cpl ∧
      u.prt = s.prt ∧ u.cfs = s.cfs ∧ u.now = s.now

/-- R14: an edit is tightening exactly if it lowers the zone's ceiling, enables the zone, disables the level, or
leaves the station with a mask whose three sets lie within those it has in force. -/
def Obligations.TighteningEditsByType : Prop :=
  ∀ c : Configuration,
    (∀ n v z, tableGet n c.zones = some z → (tightening c (.zoneCeiling n v) = true ↔ v < z.ceiling)) ∧
    (∀ n on, tightening c (.zoneEnable n on) = true ↔ on = true) ∧
    (∀ n on, tightening c (.levelEnable n on) = true ↔ on = false) ∧
    (∀ n m e, tableGet n c.stations = some e → (tightening c (.stationMask n m) = true ↔
      (m.call = true → e.mask.call = true) ∧ (m.ready = true → e.mask.ready = true) ∧
      (m.cancel = true → e.mask.cancel = true) ∧ (m.cage = true → e.mask.cage = true) ∧
      (m.skip = true → e.mask.skip = true) ∧ (m.personnel = true → e.mask.personnel = true) ∧
      (m.material = true → e.mask.material = true) ∧ (m.rock = true → e.mask.rock = true) ∧
      (m.search = true → e.mask.search = true) ∧ (m.inspect = true → e.mask.inspect = true)))

/-- R13, R15 to R17: a tightening edit takes effect in the configuration in force at once and removes a staged
edit for its item; a level disabled removes every waiting trip to it. A zone edit taken with a trip other than a
SEARCH trip ACTIVE brings the ceiling to the target of the new profile, where the winder state has one, and for a
SEARCH trip leaves it; nothing else of the part changes. The value written is the one value of the one item that
the edit names; every other value and every other item of the configuration stays. -/
def Obligations.TighteningEditTakesEffectAtOnce : Prop :=
  (∀ (s : State) (tag : Byte) (e : Edit), linkOpen s = true → s.msq.winder ≠ .commission →
    editFits (cfg s) e → tightening (cfg s) e = true →
    ∃ u, exec (.edit tag (editBody e)) s = .next u ∧
      u.cfs = { s.cfs with inForce := s.cfs.inForce.map (fun c => writeEdit c e) } ∧
      u.pfu.staged = s.pfu.staged.filter (fun x => !sameItem x e) ∧
      u.tqm = { s.tqm with trips := s.tqm.trips.filter (fun t => match e with
        | .levelEnable n _ => !(waiting t && decide (t.dest = some n))
        | _ => true) } ∧
      u.hlc.places = s.hlc.places ++ [⟨false, 0x17, tag, [0x00, 0x01]⟩] ∧
      u.msq.winder = s.msq.winder ∧ u.slc = s.slc ∧ u.dpt = s.dpt ∧
      u.cpl = s.cpl ∧ u.prt = s.prt ∧ u.now = s.now ∧
      (activeTrip s = none ∨ (∃ n on, e = .levelEnable n on) ∨ (∃ n m, e = .stationMask n m) →
        u.msq.ceiling = s.msq.ceiling) ∧
      (∀ t, activeTrip s = some t → (∃ n v, e = .zoneCeiling n v) ∨ (∃ n on, e = .zoneEnable n on) →
        (t.kind = .search → u.msq = s.msq) ∧
        (∀ run, t.kind ≠ .search → s.msq.winder = .running .moving → currentTrip s = some run →
          u.msq = { s.msq with
            ceiling := broughtTo (cfg s).params s.now (movingTarget u run) s.msq.ceiling }) ∧
        (t.kind ≠ .search → s.msq.winder = .stopping .decelerating → u.msq = { s.msq with
          ceiling := broughtTo (cfg s).params s.now (0, .stop) s.msq.ceiling }) ∧
        (s.msq.winder ≠ .running .moving → s.msq.winder ≠ .stopping .decelerating →
          u.msq = s.msq))) ∧
  (∀ (c : Configuration) (n : Nat),
    let zones (change : ZoneEntry → ZoneEntry) (w : Configuration) : Prop :=
      w = { c with zones := w.zones } ∧ tableGet n w.zones = (tableGet n c.zones).map change ∧
        ∀ m, m ≠ n → tableGet m w.zones = tableGet m c.zones
    (∀ v, zones (fun z => { z with ceiling := v }) (writeEdit c (.zoneCeiling n v))) ∧
    (∀ on, zones (fun z => { z with enabled := on }) (writeEdit c (.zoneEnable n on))) ∧
    (∀ on, let w := writeEdit c (.levelEnable n on)
      w = { c with levels := w.levels } ∧
      tableGet n w.levels = (tableGet n c.levels).map (fun e => { e with enabled := on }) ∧
      ∀ m, m ≠ n → tableGet m w.levels = tableGet m c.levels) ∧
    (∀ mask, let w := writeEdit c (.stationMask n mask)
      w = { c with stations := w.stations } ∧
      tableGet n w.stations = (tableGet n c.stations).map (fun e => { e with mask := mask }) ∧
      ∀ m, m ≠ n → tableGet m w.stations = tableGet m c.stations))

/-- R13, R18 to R20: a loosening edit taken in PARKED is applied at once; in every other state but COMMISSION it is
staged at the tail of a buffer of fewer than 8 edits, or replaces the staged edit for its item in its place, and
is refused STAGE_FULL by a full buffer that holds none for the item. DROP_EDITS empties the staged buffer,
answers the number of edits dropped, and queues an EDIT notice with cause DROPPED if there was one; in
COMMISSION it is refused. The model's choice: notes/assumptions/19 (cause PARKED for a loosening edit applied at
once). -/
def Obligations.LooseningAndDroppedEdits : Prop :=
  (∀ (s : State) (tag : Byte) (e : Edit), linkOpen s = true → s.msq.winder ≠ .commission →
    editFits (cfg s) e → tightening (cfg s) e = false →
    (s.msq.winder = .parked → exec (.edit tag (editBody e)) s = .next { s with
      hlc := queueAll [.edit .parked [e] none] (answered s 0x17 tag [0x00, 0x01])
      cfs := { s.cfs with inForce := s.cfs.inForce.map (fun c => writeEdit c e) } }) ∧
    (s.msq.winder ≠ .parked → (∀ x ∈ s.pfu.staged, sameItem x e = false) → s.pfu.staged.length < 8 →
      exec (.edit tag (editBody e)) s = .next { s with
        hlc := answered s 0x17 tag [0x00, 0x02], pfu := ⟨s.pfu.staged ++ [e]⟩ }) ∧
    (∀ before x after, s.msq.winder ≠ .parked → s.pfu.staged = before ++ x :: after →
      sameItem x e = true → (∀ y ∈ before ++ after, sameItem y e = false) →
      exec (.edit tag (editBody e)) s = .next { s with
        hlc := answered s 0x17 tag [0x00, 0x03], pfu := ⟨before ++ e :: after⟩ }) ∧
    (s.msq.winder ≠ .parked → (∀ x ∈ s.pfu.staged, sameItem x e = false) → 8 ≤ s.pfu.staged.length →
      exec (.edit tag (editBody e)) s = .next { s with hlc := answered s 0x17 tag [0x0F] })) ∧
  (∀ (s : State) (tag : Byte), linkOpen s = true →
    (s.msq.winder ≠ .commission → exec (.dropEdits tag []) s = .next { s with
      hlc := queueAll (if s.pfu.staged = [] then [] else [.edit .dropped s.pfu.staged none])
        (answered s 0x18 tag ([0x00] ++ put8 s.pfu.staged.length))
      pfu := ⟨[]⟩ }) ∧
    (s.msq.winder = .commission → exec (.dropEdits tag []) s = .next { s with
      hlc := answered s 0x18 tag [0x03] }))

/-- R78, R105, R121, R193: ENTER_COMMISSION in PARKED empties the queue and the staged buffer, returns the stations
to UNHEARD, copies the configuration in force into the working configuration and enters COMMISSION; positions,
every output line, clutch and brake watch, the allocator, the image and the configuration in force stay. On a
part that shows no station condition the faults and the emergency block stay too. -/
def Obligations.EnterCommissionCopiesConfiguration : Prop :=
  ∀ (s : State) (tag : Byte), linkOpen s = true → s.msq.winder = .parked → s.cfs.write = none →
    ∃ u, exec (.enterCommission tag []) s = .next u ∧
      u.msq.winder = .commission ∧ u.msq.ceiling = ⟨0, .none, none, none⟩ ∧
      u.tqm = { s.tqm with trips := [] } ∧ u.pfu.staged = [] ∧
      u.slc = {
        stations := (cfg s).stations.map (fun p => (p.1, Station.unheard))
        pointer := 0, round := none, path := 0, originStation := none, exchange := none } ∧
      u.cfs = { s.cfs with working := s.cfs.inForce } ∧
      u.hlc.places = s.hlc.places ++ [⟨false, 0x19, tag, [0x00]⟩] ∧
      u.dpt = s.dpt ∧ u.now = s.now ∧ u.cpl = { s.cpl with block := u.cpl.block } ∧
      (presence s .stationLost = 0 → presence s .stationHold = 0 → presence s .pathGate = 0 →
        u.cpl = s.cpl ∧ u.prt = s.prt)

/-- R187 to R189: STORE in COMMISSION or PARKED begins a write of the configuration in force, or an erase without
one; its first step clears the valid mark. A store write ends with the image valid and holding the content as it
stood at the STORE where the value read back agrees, and otherwise, or after an erase, with the mark clear; the
STORE notice carries the outcome, the check value written or 0, and the time taken. The model's choice:
notes/assumptions/2 and 21 (the content bytes are a free value; the mark is cleared at the STORE). -/
def Obligations.StoreWritesAndReadsBack : Prop :=
  (∀ (s : State) (tag : Byte), linkOpen s = true → s.cfs.write = none →
    s.msq.winder = .commission ∨ s.msq.winder = .parked →
    exec (.store tag []) s = .next { s with
      hlc := answered s 0x1A tag [0x00]
      cfs := { s.cfs with
        image := { s.cfs.image with mark := false }
        write := some {
          content := s.cfs.inForce
          step := if s.cfs.inForce = none then .clearing else .writing
          startedAt := s.now } } }) ∧
  (∀ (s : State) (agrees : Bool) (w : StoreWrite), s.powered = true → s.cfs.write = some w →
    (∀ c, w.content = some c → ∃ u, exec (.storeWriteComplete agrees) s = .next u ∧
      u = { s with
        hlc := noted [.store (if agrees then .written else .failed)
          (bytesCheck (Config.imageContent c)) (s.now - w.startedAt)] s.hlc
        cfs := { s.cfs with
          image := if agrees then ⟨c, bytesCheck (Config.imageContent c), true⟩
            else { s.cfs.image with mark := false }
          write := none } } ∧
      u.cfs.image.valid = agrees) ∧
    (w.content = none → exec (.storeWriteComplete agrees) s = .next { s with
      hlc := noted [.store .erased 0 (s.now - w.startedAt)] s.hlc
      cfs := { s.cfs with image := { s.cfs.image with mark := false }, write := none } }))

/-- R183, R185, R192: RESTART in PARKED, HALTED, TRIPPED and COMMISSION is answered OK and turns the restart drain
on, with the note whether the positions may be kept; nothing else changes until the reset. It is refused BUSY
during a store write, and otherwise WRONG_STATE in the other winder states. -/
def Obligations.RestartBeginsDrain : Prop :=
  ∀ (s : State) (tag : Byte), linkOpen s = true →
    (s.cfs.write ≠ none → exec (.restart tag []) s = .next { s with hlc := answered s 0x1B tag [0x0E] }) ∧
    (s.cfs.write = none → s.msq.winder = .parked ∨ s.msq.winder = .halted →
      exec (.restart tag []) s = .next { s with
        hlc := { answered s 0x1B tag [0x00] with drain := .on true } }) ∧
    (s.cfs.write = none → s.msq.winder = .tripped ∨ s.msq.winder = .commission →
      exec (.restart tag []) s = .next { s with
        hlc := { answered s 0x1B tag [0x00] with drain := .on false } }) ∧
    (s.cfs.write = none → s.msq.winder = .changeover ∨ (∃ phase, s.msq.winder = .running phase) ∨
        (∃ stage, s.msq.winder = .stopping stage) →
      exec (.restart tag []) s = .next { s with hlc := answered s 0x1B tag [0x03] })

/-! ## Queries -/

/-- R12, R178, R186, R202, R204: every query of a fitting length changes nothing but the receive buffer: a reply
that begins with its result is formed. The GET_STATE and GET_POSITIONS replies are 45 and 53 bytes long, a page
of the queue or of the fault list holds up to 4 records of 13 bytes, and the fields named stand at the offsets
of R202 and R204. The model's choice: notes/assumptions/24 and 40 (GET_POSITIONS reads the live count; a field
too narrow for its value shows a free value). -/
def Obligations.QueriesReplyAndChangeNothing : Prop :=
  (∀ (i : Instr) (s : State) (kind tag : Byte) (body : List Byte) (lens : List Nat), linkOpen s = true →
    hostFrame i = some (kind, tag, body) → 0x20 ≤ kind.toNat → requestLengths kind = some lens →
    body.length ∈ lens →
    ∃ (result : Byte) (content : List Byte), exec i s = .next { s with
      hlc := answered s kind tag ([result] ++ content) } ∧ (result ≠ 0 → content = [])) ∧
  (∀ (s : State) (tag : Byte), linkOpen s = true →
    (∃ c, exec (.getState tag []) s = .next { s with hlc := answered s 0x20 tag ([0x00] ++ c) } ∧
      ([0x00] ++ c).length = 45 ∧ u8At ([0x00] ++ c) 1 = winderNumber s.msq.winder ∧
      u8At ([0x00] ++ c) 2 = phaseNumber s.msq.winder ∧
      u16At ([0x00] ++ c) 10 = s.msq.ceiling.value % 65536 ∧
      u8At ([0x00] ++ c) 31 = lineSet s.cpl ∧
      u8At ([0x00] ++ c) 44 = s.prt.entries.length % 256) ∧
    (∀ d, ∃ c, exec (.getPositions tag (put8 (drumNumber d))) s = .next { s with
        hlc := answered s 0x21 tag ([0x00] ++ c) } ∧ ([0x00] ++ c).length = 53 ∧
      (countLow ≤ (drumTrack s d).count → (drumTrack s d).count ≤ countHigh →
        s32At ([0x00] ++ c) 2 = (drumTrack s d).count) ∧
      u8At ([0x00] ++ c) 25 = posNumber (posOf s (referenceConv d))) ∧
    (∀ n : Nat, 1 ≤ n → n ≤ 16 → ∃ c, exec (.getQueue tag (put8 n)) s = .next { s with
        hlc := answered s 0x22 tag ([0x00] ++ c) } ∧
      c = put8 s.tqm.trips.length ++ put8 n ++ put8 ((s.tqm.trips.drop (n - 1)).take 4).length ++
        ((s.tqm.trips.drop (n - 1)).take 4).flatMap putTripRecord) ∧
    (∀ n : Nat, 1 ≤ n → n ≤ 17 → ∃ c, exec (.getFaults tag (put8 n)) s = .next { s with
        hlc := answered s 0x24 tag ([0x00] ++ c) } ∧
      c = put8 s.prt.entries.length ++ put8 n ++
        put8 ((s.prt.entries.drop (n - 1)).take 4).length ++
        ((s.prt.entries.drop (n - 1)).take 4).flatMap (putEntry s)))

/-- R12, R20, R53, R80, R104, R151, R171, R195, R202, R204: the OK replies of the other queries, each of its length,
with the values it reports: of the working configuration in COMMISSION and otherwise of the one in force. The
GET_TRIP reply ends with the search step, the present source of each required confirmation (0xFE WAIVED, 0xFD
CONSOLE) and the time left before the pending expiry. The model's choice: notes/assumptions/11 and 40 (the time
left is rounded down; a field too narrow for its value shows a free value). -/
def Obligations.ConfigurationQueryReplies : Prop :=
  ∀ (s : State) (tag : Byte), linkOpen s = true →
    let c : Configuration :=
      if s.msq.winder = .commission then s.cfs.working.getD defaultConfiguration
      else s.cfs.inForce.getD defaultConfiguration
    (∀ n r, paramRow n = some r → exec (.getParam tag (put8 n)) s = .next { s with
      hlc := answered s 0x28 tag ([0x00] ++ put8 n ++ put32 (paramGet c.params n) ++ put32 r.dflt ++
        put32 r.low ++ put32 r.high) }) ∧
    (∀ n e, n ≤ 39 → tableGet n c.levels = some e → exec (.getLevel tag (put8 n)) s = .next { s with
      hlc := answered s 0x29 tag ([0x00] ++ put8 n ++ putBool e.enabled ++ putOpt32 e.cage ++
        putOpt32 e.skip ++ putOpt32 (e.cage.map (fun d => c.params.linkSum - d)) ++
        putBool (s.pfu.staged.any (fun x => sameItem x (.levelEnable n true)))) }) ∧
    (∀ n z, 1 ≤ n → n ≤ 24 → tableGet n c.zones = some z →
      exec (.getZone tag (put8 n)) s = .next { s with hlc := answered s 0x2A tag ([0x00] ++ put8 n ++
          put8 1 ++ put8 (compNumber z.comp) ++ put32 z.start ++ put32 z.range ++
          put16 z.ceiling ++ putBool z.enabled ++
          put8 ((s.pfu.staged.any (fun x => sameItem x (.zoneCeiling n 0))).toNat +
            2 * (s.pfu.staged.any (fun x => sameItem x (.zoneEnable n true))).toNat)) }) ∧
    (∀ n, 1 ≤ n → n ≤ 24 → tableGet n c.zones = none → exec (.getZone tag (put8 n)) s = .next { s with
      hlc := answered s 0x2A tag ([0x00] ++ put8 n ++ List.replicate 14 0) }) ∧
    (∀ p, exec (.getProtection tag (put8 (protNumber p))) s = .next { s with
      hlc := answered s 0x2B tag ([0x00] ++ put8 (protNumber p) ++
        put8 (actionNumber c.protections[protIdx p].action * 16 +
          recoveryNumber c.protections[protIdx p].recovery) ++
        put8 c.protections[protIdx p].retryTime ++
        put8 ((actionsAllowed p).map (fun a => 2 ^ (actionNumber a - 1))).sum ++
        put8 ((recoveriesAllowed p).map (fun r => 2 ^ (recoveryNumber r - 1))).sum ++
        putBool (s.prt.entries.any (fun e => decide (e.prot = p))) ++ putSet (presence s p)) }) ∧
    exec (.getEdits tag []) s = .next { s with hlc := answered s 0x27 tag ([0x00] ++
      put8 s.pfu.staged.length ++ s.pfu.staged.flatMap putEdit) } ∧
    (s.prt.firstOut = none → exec (.getFirstOut tag []) s = .next { s with
      hlc := answered s 0x25 tag ([0x00] ++ List.replicate 22 0) }) ∧
    (∀ f, s.prt.firstOut = some f → exec (.getFirstOut tag []) s = .next { s with
      hlc := answered s 0x25 tag ([0x00, 0x01] ++ put8 (protNumber f.prot) ++ put8 f.subject ++
        putTime f.raisedAt ++ putOpt32 f.cageDepth ++ put8 (posNumber f.cagePos) ++
        putOpt32 f.cwDepth ++ put8 (posNumber f.cwPos) ++ putOpt32 f.skipDepth ++
        put8 (posNumber f.skipPos)) }) ∧
    (∀ n : Nat, 1 ≤ n → n ≤ 24 → let page := (c.stations.filter (fun p => decide (n ≤ p.1))).take 4
      exec (.getStations tag (put8 n)) s = .next { s with hlc := answered s 0x26 tag ([0x00] ++
        put8 c.stations.length ++ put8 n ++ put8 page.length ++ page.flatMap (putStationEntry s)) }) ∧
    (∀ n t, n ≤ 255 → tripById s n = some t →
      let station (required : Bool) (source : Option Nat) : List Byte :=
        put8 (if required then source.getD 0 else 0)
      let origin : List Byte := match originOf s.tqm t.conv with
        | .outside => put8 (if t.required.origin then 0xFE else 0)
        | .atLevel level => station t.required.origin (stationFor (cfg s) t.conv level)
        | .unset => put8 0
      let expiry : Nat := t.requestedAt + (cfg s).params.pendingLimit.toNat * 1000
      let timeLeft : Nat := if waiting t = true ∧ t.kind ≠ .search ∧ s.now ≤ expiry then
        (expiry - s.now) / 1000 else 0xFFFF
      exec (.getTrip tag (put8 n)) s = .next { s with hlc := answered s 0x23 tag ([0x00] ++
        putTripRecord t ++ put8 (if t.kind = .search then t.step else 0) ++ origin ++
        station t.required.dest (destSource s t) ++ put8 (if t.required.console then 0xFD else 0) ++
        station t.required.panel (panelStation (cfg s)) ++ put16 timeLeft) })

/-! ## The station line -/

/-- R82, R88, R89: the next poll goes to the lowest-numbered attended station left in the round, else to the next
unattended station of the rotation, which moves the pointer to it; a part without a round starts one over the
attended set. The exchange carries the pending result, the display and the end of ANSWER_WINDOW. In COMMISSION,
without stations and during an exchange no poll goes out. The model's choice: notes/assumptions/15 (the poll
itself takes no time). -/
def Obligations.StationPollOpensOneExchange : Prop :=
  ∀ s : State, s.powered = true →
    let idle : Prop := s.msq.winder = .commission ∨ s.slc.stations = [] ∨ s.slc.exchange ≠ none
    let polled (n : Nat) (r : Round) (pointer : Nat) : State := { s with slc := { s.slc with
      pointer := pointer
      round := some r
      exchange := some {
        station := n
        result := (stationOf s n).bind (fun e => e.result)
        displayId := (displayFor s n).elim 0 (fun t => t.id)
        displayState := (displayFor s n).map (fun t => t.state)
        deadline := s.now + (cfg s).params.answerWindow.toNat } } }
    let firstOf (m : SubjectSet) (n : Nat) : Prop :=
      setHas m n = true ∧ ∀ k, k < n → setHas m k = false
    (idle → exec .stationPoll s = .next s) ∧
    (∀ r n, ¬ idle → s.slc.round = some r → firstOf r.attendedLeft n →
      exec .stationPoll s =
        .next (polled n { r with attendedLeft := setErase n r.attendedLeft } s.slc.pointer)) ∧
    (∀ r i, ¬ idle → s.slc.round = some r → (∀ k, setHas r.attendedLeft k = false) →
      (r.unattended.length : Int) < (cfg s).params.unattendedPerRound →
      let place (k : Nat) : Nat := (s.slc.pointer + k) % 24 + 1
      let fits (n : Nat) : Prop := (stationOf s n).isSome = true ∧ setHas r.pollingSet n = false
      i < 24 → fits (place i) → (∀ j, j < i → ¬ fits (place j)) → place i ∉ r.unattended →
      exec .stationPoll s =
        .next (polled (place i) { r with unattended := r.unattended ++ [place i] } (place i))) ∧
    (∀ n, ¬ idle → s.slc.round = none → (∀ p ∈ s.slc.stations, p.2.link ≠ .lost) →
      firstOf (attended s) n →
      exec .stationPoll s =
        .next (polled n ⟨attended s, setErase n (attended s), []⟩ s.slc.pointer))

/-- R61, R63, R67, R79, R89 to R91, R93, R95, R99 to R101, R203: a good answer without a signal, taken within
ANSWER_WINDOW: an ONLINE station stays ONLINE with its readings, an UNHEARD or MISSING one, and a LOST one at
its second good answer, becomes ONLINE with a STATION notice, and a LOST one at its first stays LOST. A result
that the poll delivered is dropped. Gates that open revoke the ORIGIN that the station gave, each trip with its
TRIP notice; a READY trip that so falls back after its deadline is removed EXPIRED by the same claim. After the
answer STATION_HOLD is present exactly while the hold counts as pressed, PATH_GATE exactly while a trip is
ACTIVE with the station on its path and the gates count as OPEN, and STATION_LOST is gone for an ONLINE station
and, without a run, present for a LOST one exactly while it is attended; a condition that becomes present stands
in its entry. The model's choice: notes/assumptions/15 (which answers are in time). -/
def Obligations.GoodAnswersBringStationsOnline : Prop :=
  ∀ (s : State) (x : Exchange) (e : Station) (a : StationAnswer), s.powered = true →
    s.slc.exchange = some x → stationOf s x.station = some e → s.now ≤ x.deadline → a.start = 0x5A →
    a.lineError = false → a.station.toNat = x.station →
    a.check = frameCheck [a.station, a.status, a.signal, a.arg1, a.arg2, a.arg3] → a.signal = 0 →
    let kept : Option SignalResult := if x.result.isSome then none else e.result
    let after : Station := if e.link = .lost ∧ e.rejoin = 0 then
        { e with misses := 0, rejoin := 1, result := kept }
      else ⟨.online, 0, 0, a.status.getLsbD 0, a.status.getLsbD 1, kept⟩
    let stands (u : State) (p : Protection) : Prop :=
      isPresent s p x.station = false → isPresent u p x.station = true → actionInForce s p ≠ .off →
        ∃ entry, entryOf u p = some entry ∧ setHas entry.subjects x.station = true
    (1 ≤ x.station → x.station ≤ 24 → ∃ u, exec (.stationAnswer a) s = .next u ∧
      stationOf u x.station = some after ∧ u.slc.exchange = none ∧ u.hlc.places = s.hlc.places ∧
      isPresent u .stationHold x.station = after.hold ∧
      (isPresent u .pathGate x.station = true ↔ (activeTrip u).isSome = true ∧
        setHas u.slc.path x.station = true ∧ after.gatesOpen = true) ∧
      (after.link = .online → isPresent u .stationLost x.station = false) ∧
      (after.link = .lost → s.msq.current = none → activeTrip s = none →
        isPresent u .stationLost x.station = setHas (attended u) x.station) ∧
      stands u .stationHold ∧ stands u .pathGate ∧ stands u .stationLost) ∧
    (a.status.getLsbD 1 = false → isPresent s .stationHold x.station = false →
    isPresent s .pathGate x.station = false → isPresent s .stationLost x.station = false →
    let leaves (t : Station) (ns : List Notice) : Prop :=
      ∃ table : Table Station, tableGet x.station table = some t ∧
        (∀ m, m ≠ x.station → tableGet m table = tableGet m s.slc.stations) ∧
        exec (.stationAnswer a) s = .next { s with
          hlc := noted ns s.hlc, slc := { s.slc with exchange := none, stations := table } }
    (a.status.getLsbD 0 = false → e.link = .online → leaves ⟨.online, 0, 0, false, false, kept⟩ []) ∧
    (a.status.getLsbD 0 = false → (e.link = .unheard ∨ e.link = .missing ∨ e.link = .lost ∧ e.rejoin ≠ 0) →
      leaves ⟨.online, 0, 0, false, false, kept⟩ [.station x.station e.link .online 0 e.gatesOpen e.hold
        (setHas (attended s) x.station)]) ∧
    (e.link = .lost → e.rejoin = 0 → e.hold = false → activeTrip s = none →
      setHas (attended s) x.station = false →
      leaves { e with misses := 0, rejoin := 1, result := kept } []) ∧
    (a.status.getLsbD 0 = true → e.link = .online → e.gatesOpen = false → activeTrip s = none →
      (∀ t ∈ s.tqm.trips, t.kind = .search → t.held.origin = false ∨ pastDeadline s t = false) →
      let gave (t : Trip) : Bool :=
        waiting t && t.held.origin && decide (originSource s t.conv = some x.station)
      let bare (t : Trip) : Trip := { t with held := { t.held with origin := false } }
      let reports (t : Trip) : Notice := match regraded s s.now t (bare t) with
        | some v => .trip .revoked v none
        | none => .trip .removed (settled (bare t)) (some .expired)
      ∃ u, exec (.stationAnswer a) s = .next u ∧
        stationOf u x.station = some ⟨.online, 0, 0, true, false, kept⟩ ∧
        u.tqm = { s.tqm with trips := s.tqm.trips.filterMap (fun t =>
          if gave t then regraded s s.now t (bare t) else some t) } ∧
        u.hlc = noted ((s.tqm.trips.filter gave).map reports) s.hlc ∧
        u.slc.exchange = none ∧ u.msq = s.msq ∧ u.dpt = s.dpt ∧
        u.cpl = s.cpl ∧ u.prt = s.prt ∧ u.cfs = s.cfs ∧ u.now = s.now))

/-- R59, R90, R96, R98, R100: an answer of an ONLINE station with gates closed that carries a signal: an unknown
signal is answered OUT_OF_RANGE; a CALL that is admitted joins the queue; a READY confirms every waiting trip of
which the station is a source; a CANCEL removes a waiting trip that the station requested. The result becomes
the pending result of the station. The hold reading is as it stands, or newly pressed on a part without a run,
which makes STATION_HOLD present before the signal is dispatched. -/
def Obligations.StationSignalsReachTheQueue : Prop :=
  ∀ (s : State) (x : Exchange) (e : Station) (a : StationAnswer) (m : Mask), s.powered = true →
    s.slc.exchange = some x → stationOf s x.station = some e → s.now ≤ x.deadline → a.start = 0x5A →
    a.lineError = false → a.station.toNat = x.station →
    a.check = frameCheck [a.station, a.status, a.signal, a.arg1, a.arg2, a.arg3] → e.link = .online →
    a.status.getLsbD 0 = false → maskOf s x.station = some m → 1 ≤ x.station → x.station ≤ 24 →
    let pressed : Bool := a.status.getLsbD 1
    (isPresent s .stationHold x.station = pressed ∨
      pressed = true ∧ s.msq.current = none ∧ (s.msq.winder = .parked ∨ s.msq.winder = .tripped)) →
    isPresent s .pathGate x.station = false → isPresent s .stationLost x.station = false →
    (∀ t ∈ s.tqm.trips, t.state = .ready → t.held = t.required ∨ pastDeadline s t = false) →
    let ends (r : SignalResult) (trips : List Trip) (lastId : Nat) : Prop :=
      ∃ u, exec (.stationAnswer a) s = .next u ∧
        stationOf u x.station = some ⟨.online, 0, 0, false, pressed, some r⟩ ∧
        isPresent u .stationHold x.station = pressed ∧
        u.tqm = { s.tqm with trips := trips, lastId := lastId } ∧ u.slc.exchange = none ∧
        u.hlc.places = s.hlc.places ∧ u.pfu = s.pfu ∧ u.dpt = s.dpt ∧ u.cfs = s.cfs ∧ u.now = s.now ∧
        (isPresent s .stationHold x.station = pressed → u.cpl = s.cpl ∧ u.prt = s.prt)
    let gains (t : Trip) : Confs := {
      origin := t.held.origin || (t.required.origin && decide (originSource s t.conv = some x.station))
      dest := t.held.dest || (t.required.dest && decide (destSource s t = some x.station))
      console := t.held.console
      panel := t.held.panel || (t.required.panel && decide (panelStation (cfg s) = some x.station)) }
    let confirms (t : Trip) : Bool := waiting t && !decide (gains t = t.held)
    (3 < a.signal.toNat → ends ⟨a.signal, .outOfRange, 0, 0⟩ s.tqm.trips s.tqm.lastId) ∧
    (∀ conv kind dest, a.signal = 1 → m.call = true →
      admission s (some m) a.arg1.toNat a.arg2.toNat (callDest s x.station a.arg3) =
        .inr (conv, kind, dest) →
      let t := admittedTrip s x.station conv kind dest
      ends ⟨1, .accepted, t.id, 0⟩ (s.tqm.trips ++ [t]) t.id) ∧
    (a.signal = 2 → m.ready = true → s.tqm.trips.filter confirms = [] →
      ends ⟨2, .nothingToConfirm, 0, 0⟩ s.tqm.trips s.tqm.lastId) ∧
    (∀ t rest, a.signal = 2 → m.ready = true → s.tqm.trips.filter confirms = t :: rest →
      ends ⟨2, .confirmed, t.id, rest.length + 1⟩ (s.tqm.trips.map (fun v =>
        if confirms v then settled { v with held := gains v } else v)) s.tqm.lastId) ∧
    (∀ t, a.signal = 3 → m.cancel = true →
      s.tqm.trips.filter (fun v => decide (v.id = a.arg1.toNat)) = [t] → t.requester = x.station →
      waiting t = true →
      ends ⟨3, .cancelled, t.id, 0⟩ (s.tqm.trips.filter (fun v => !decide (v.id = t.id))) s.tqm.lastId)

/-- R61, R64, R65, R67, R82, R91, R92, R94, R99 to R101: a miss, by the end of ANSWER_WINDOW or by an answer that is
late or not good: an UNHEARD or MISSING station below LOST_MISSES counts on, an ONLINE one becomes MISSING, a
LOST one counts on to 15, and one whose count reaches LOST_MISSES becomes LOST with gates open, hold clear and
no pending result; each change of link state has its STATION notice. The loss revokes from every waiting trip
the confirmations whose source is the station; a waiting trip that it requested is removed with reason
REQUESTER_LOST under WITHDRAW, and orphaned with CONSOLE required under KEEP; a READY trip that falls back after
its deadline is removed EXPIRED instead; ACTIVE and SUSPENDED trips stay. STATION_HOLD goes at the loss,
PATH_GATE is present exactly while a trip is ACTIVE with the station on its path and the gates OPEN, and
STATION_LOST while the station is LOST and attended; the loss of a station on the path of a moving trip makes
both present. The model's choice: notes/assumptions/1 and 15 (the clock at the end of ANSWER_WINDOW; which
answers are late). -/
def Obligations.MissesMoveStationsToLost : Prop :=
  (∀ (s : State) (n : Nat) (t : Trip), waiting t = true → t.requester = n → n ≠ 0 →
    (cfg s).params.stationLossDisposal = 0 → pastDeadline s t = false →
    ∃ v, v.id = t.id ∧ lossChange s n t = .drop (.withdrawn .requesterLost) v) ∧
  (∀ (s : State) (n : Nat) (t : Trip), t.state = .ready → t.held = t.required → pastDeadline s t = true →
    t.held.origin = true ∧ originSource s t.conv = some n ∨ t.held.dest = true ∧ destSource s t = some n ∨
      t.held.panel = true ∧ panelStation (cfg s) = some n →
    ∃ v, v.id = t.id ∧ v.state = .pending ∧ lossChange s n t = .drop .expired v) ∧
  (∀ (s : State) (x : Exchange) (e : Station), s.powered = true → s.slc.exchange = some x →
    stationOf s x.station = some e → 1 ≤ x.station → x.station ≤ 24 →
    let n := x.station
    let limit : Nat := (cfg s).params.lostMisses.toNat
    let becomesLost : Prop := e.link = .online ∧ limit ≤ 1 ∨
      (e.link = .unheard ∨ e.link = .missing) ∧ limit ≤ e.misses + 1
    let revoked (t : Trip) : Trip :=
      let bare : Trip := { t with held := {
        origin := t.held.origin && !decide (originSource s t.conv = some n)
        dest := t.held.dest && !decide (destSource s t = some n)
        console := t.held.console
        panel := t.held.panel && !decide (panelStation (cfg s) = some n) } }
      if bare.held = t.held then t else bare
    let left (now : Nat) (t : Trip) : Option Trip :=
      if waiting t = false then some t
      else if regraded s now t (revoked t) = none then none
      else if t.requester = n then
        if (cfg s).params.stationLossDisposal = 0 then none
        else if t.orphaned = true then some (settled (revoked t))
        else regraded s now t { revoked t with
          orphaned := true, required := { t.required with console := true } }
      else some (settled (revoked t))
    let missed (u : State) : Prop := u.slc.exchange = none ∧ u.hlc.places = s.hlc.places ∧
      ((∃ after, stationOf u n = some after ∧ (after.link = .lost ↔ becomesLost ∨ e.link = .lost) ∧
        (becomesLost → after = ⟨.lost, if e.link = .online then 1 else limit, 0, true, false, none⟩) ∧
        (isPresent u .pathGate n = true ↔ (activeTrip u).isSome = true ∧
          setHas u.slc.path n = true ∧ after.gatesOpen = true) ∧
        (after.link ≠ .lost → isPresent u .stationLost n = false) ∧
        (after.link = .lost → s.msq.current = none → activeTrip s = none →
          isPresent u .stationLost n = setHas (attended u) n)) ∧
      (becomesLost → isPresent u .stationHold n = false) ∧
      (¬ becomesLost → isPresent u .stationHold n = isPresent s .stationHold n) ∧
      (queueSound s → becomesLost → s.msq.current = none → activeTrip s = none →
        u.tqm = { s.tqm with trips := s.tqm.trips.filterMap (left u.now) }) ∧
      (∀ t, queueSound s → becomesLost → s.msq.winder = .running .moving → s.msq.current = some t.id →
        s.tqm.trips.filter (fun v => decide (v.id = t.id)) = [t] → t.state = .active →
        (∀ v ∈ s.tqm.trips, v.id ≠ t.id → waiting v = true) → atStandstill s (tripDrum t) = false →
        setHas s.slc.path n = true → actionInForce s .stationLost ≠ .emergency →
        actionInForce s .pathGate ≠ .emergency →
        isPresent u .stationLost n = true ∧ isPresent u .pathGate n = true ∧
        u.tqm = { s.tqm with trips := s.tqm.trips.filterMap (left u.now) } ∧ u.slc.path = s.slc.path ∧
        (∀ p, p = .stationLost ∨ p = .pathGate → isPresent s p n = false → actionInForce s p ≠ .off →
          ∃ entry, entryOf u p = some entry ∧ setHas entry.subjects n = true) ∧
        (entryOf s .stationLost = none → isPresent s .stationLost n = false →
          actionInForce s .stationLost = .controlled →
          u.msq.winder = .stopping .decelerating ∧ u.msq.current = some t.id)))
    (∃ u, exec .answerWindowExpiry s = .next u ∧ missed u) ∧
    ∀ a : StationAnswer, x.deadline < s.now ∨ a.start ≠ 0x5A ∨ a.lineError = true ∨
      a.station.toNat ≠ x.station ∨
      a.check ≠ frameCheck [a.station, a.status, a.signal, a.arg1, a.arg2, a.arg3] →
      ∃ u, exec (.stationAnswer a) s = .next u ∧ missed u) ∧
  ∀ (s : State) (x : Exchange) (e : Station), s.powered = true → s.slc.exchange = some x →
    stationOf s x.station = some e → isPresent s .stationHold x.station = false →
    isPresent s .pathGate x.station = false → isPresent s .stationLost x.station = false →
    activeTrip s = none → setHas (attended s) x.station = false →
    let limit : Nat := (cfg s).params.lostMisses.toNat
    let leaves (t : Station) (ns : List Notice) : Prop :=
      ∃ table : Table Station, tableGet x.station table = some t ∧
        (∀ m, m ≠ x.station → tableGet m table = tableGet m s.slc.stations) ∧
        (let u : State := { s with
          hlc := noted ns s.hlc, slc := { s.slc with exchange := none, stations := table } }
        exec .answerWindowExpiry s = .next { u with now := max s.now x.deadline % 2 ^ 48 } ∧
        ∀ a : StationAnswer, x.deadline < s.now ∨ a.start ≠ 0x5A ∨ a.lineError = true ∨
          a.station.toNat ≠ x.station ∨
          a.check ≠ frameCheck [a.station, a.status, a.signal, a.arg1, a.arg2, a.arg3] →
          exec (.stationAnswer a) s = .next u)
    (e.link = .unheard ∨ e.link = .missing → e.misses + 1 < limit →
      leaves { e with misses := e.misses + 1, rejoin := 0 } []) ∧
    (e.link = .online → 1 < limit → leaves { e with link := .missing, misses := 1, rejoin := 0 }
      [.station x.station .online .missing 1 e.gatesOpen e.hold false]) ∧
    (e.link = .lost → leaves { e with misses := min 15 (e.misses + 1), rejoin := 0 } []) ∧
    (s.tqm.trips = [] → e.link ≠ .lost →
      (e.link = .online ∧ limit ≤ 1 ∨ e.link ≠ .online ∧ limit ≤ e.misses + 1) →
      let count : Nat := if e.link = .online then 1 else limit
      leaves ⟨.lost, count, 0, true, false, none⟩
        [.station x.station e.link .lost count true false false])

/-! ## Drums, depths and marks -/

/-- R22, R25 to R29, R39, R87, R147, R153: a sample enters the count in the history, computes the speed over 100 ms,
counts the quiet samples, and leaves the other drum; while the fault line is asserted it updates nothing of the
drum. A step of more than 30 cm, or a count newly at an end of its range, makes the drum's conveyances UNKNOWN
and raises ENCODER_FAULT. The path of the ACTIVE trip of the drum, if it stays ACTIVE in its search step, is
recomputed, and its origin station stays only within LEAVE_DISTANCE. At a quiet sample of a drum that stands,
with no run, the link check and the overwind tests set their conditions, and a drum whose HELD movement exceeds
HELD_TOL loses its watch and raises HELD_DRUM_MOVE; one that finds no condition changes nothing else but the
clock, the movement of a HELD watch and, on drum 1, the link error. The model's choice: notes/assumptions/1, 7,
8, 33 and 42 (the clock at a sample; standstill as a step of its own; the order inside a sample; one raise for a
step and an end; what is held at an end). -/
def Obligations.DrumSampleRecordsCountAndSpeed : Prop :=
  ∀ (d : Drum) (s : State), s.powered = true →
    let t := drumTrack s d
    let p := (cfg s).params
    let known : Bool := s.cfs.inForce.isSome
    let now : Nat := max s.now (t.sampledAt + 10) % 2 ^ 48
    let history : List Int :=
      if t.resume then List.replicate 11 t.count else (t.count :: t.history).take 11
    let speed : Int := ((t.count - history.getLastD 0) * 10000).tdiv (scaleOf p d)
    let quiet : Bool := known && decide (speed.natAbs ≤ 2)
    let atEnd : Option RangeEnd := if t.count ≤ -2147483648 then some .low
      else if 2147483647 ≤ t.count then some .high else none
    let sampled : DrumTrack := {
      count := t.count
      used := t.count
      history := history
      speed := if known then speed else 0
      quiet := if quiet then min 20 (t.quiet + 1) else 0
      standstill := t.standstill && quiet
      heldEnd := atEnd
      faultLine := false
      resume := false
      sampledAt := now }
    let step : Int := (((t.count - t.history.headD 0).natAbs : Int) * 1000).tdiv (scaleOf p d)
    let fault : Prop :=
      (known = true ∧ t.resume = false ∧ 30 < step) ∨ (atEnd ≠ none ∧ atEnd ≠ t.heldEnd)
    let rope : Int := depthAt s .cage t.count + depthAt s .counterweight t.count - p.linkSum
    let placed : Prop := posOf s .cage ≠ .unknown ∧ posOf s .counterweight ≠ .unknown
    let beyond (conv : Conveyance) : Prop :=
      posOf s conv ≠ .unknown ∧ beyondLimit (cfg s) conv (depthAt s conv t.count) = true
    let moved (count : Int) : Int := (((t.count - count).natAbs : Int) * 1000).tdiv (scaleOf p d)
    let rests : Prop := t.faultLine = false ∧ t.standstill = true ∧ quiet = true ∧ ¬ fault ∧
      currentTrip s = none ∧ activeTrip s = none
    (∃ u, exec (.drumSample d) s = .next u ∧ u.now = now ∧
      (t.faultLine = false → drumTrack u d = sampled) ∧
      (t.faultLine = true → drumTrack u d = { t with sampledAt := now }) ∧
      drumTrack u (otherDrum d) = drumTrack s (otherDrum d) ∧ u.hlc.places = s.hlc.places ∧
      u.hlc.hunter = s.hlc.hunter ∧ u.cfs.image = s.cfs.image ∧ u.cfs.working = s.cfs.working) ∧
    (∀ run, s.tqm.trips.filter (fun v => decide (v.state = .active)) = [run] → tripDrum run = d →
      tableSorted (cfg s).stations = true → ∃ u, exec (.drumSample d) s = .next u ∧
        ∀ v, activeTrip u = some v → (v.kind = .search → v.step = run.step) →
          pathByRule u v u.slc.originStation u.slc.path ∧
          ∀ n, u.slc.originStation = some n ↔ s.slc.originStation = some n ∧ nearStation u v n) ∧
    (t.faultLine = false → fault → ∃ u, exec (.drumSample d) s = .next u ∧
      (∀ conv, convDrum conv = d → posOf u conv = .unknown ∧ (convTrack u conv).expected = none ∧
        (convTrack u conv).datum = (convTrack s conv).datum ∧
        (convTrack u conv).drift = (convTrack s conv).drift) ∧
      (actionInForce s .encoderFault ≠ .off →
        ∃ e, entryOf u .encoderFault = some e ∧ setHas e.subjects (drumNumber d) = true)) ∧
    (rests → ∃ u, exec (.drumSample d) s = .next u ∧
      (d = .d1 → placed → u.dpt.linkError = some rope ∧
        isPresent u .linkMismatch 1 = decide (p.linkTol < (rope.natAbs : Int))) ∧
      (d = .d1 → ¬ placed → u.dpt.linkError = none ∧ isPresent u .linkMismatch 1 = false) ∧
      (∀ conv, convDrum conv = d → (isPresent u .overwind (convNumber conv) = true ↔ beyond conv)) ∧
      (∀ count before, watchOf s d = .held count before → permitOf s d = false →
        p.heldTol < moved count → actionInForce s .heldDrumMove ≠ .off →
        watchOf u d = .none ∧
          ∃ e, entryOf u .heldDrumMove = some e ∧ setHas e.subjects (drumNumber d) = true)) ∧
    (rests → (∀ ref deadline, watchOf s d ≠ .fade ref deadline) →
      (∀ count before, watchOf s d = .held count before → moved count ≤ p.heldTol) →
      (∀ conv, convDrum conv = d → isPresent s .overwind (convNumber conv) = false ∧ ¬ beyond conv) →
      (d = .d1 → isPresent s .linkMismatch 1 = false ∧
        (placed → (rope.natAbs : Int) ≤ p.linkTol)) →
      let watch : Watch := match watchOf s d with
        | .held count _ => .held count (moved count)
        | .none => .none
        | .fade ref deadline => .fade ref deadline
      exec (.drumSample d) s = .next { s with
        now := now
        dpt := match d with
          | .d1 => { s.dpt with
              drum1 := sampled
              linkError := if posOf s .cage = .unknown ∨ posOf s .counterweight = .unknown then none
                else some rope }
          | .d2 => { s.dpt with drum2 := sampled }
        cpl := match d with
          | .d1 => { s.cpl with watch1 := watch }
          | .d2 => { s.cpl with watch2 := watch } })

/-- R26, R54, R55, R112, R116, R129 to R131, R146: STANDSTILL_REACHED after twenty quiet samples establishes
standstill and sets the origin status from the depth; OUTSIDE gives ORIGIN by waiver. Without a run the brake
watch of a drum whose permit is withdrawn enters HELD. The run of a trip to a level settles ARRIVED from MOVING
if it stands within STOP_WINDOW, and passes into SETTING from DECELERATING; both withdraw the permit of its
drum. A search in MOVING settles ARRIVED if it has found its mark; an exhausted step of it without a find
reverses into the next, the ceiling following, and an exhausted step 4 settles ABORTED. A step is exhausted once
the reference conveyance has travelled the step's window from the assumed depth. The model's choice:
notes/assumptions/7, 14 and 46 (standstill as a step of its own, and the order of its uses; the command before
its time; a search found before MOVING). -/
def Obligations.StandstillSetsOriginAndSettlesRun : Prop :=
  (∀ (s : State) (t : Trip) (r : SearchRec), t.kind = .search → searchOf s (tripDrum t) = some r →
    let reached : Bool := match r.dir with
      | .down => decide (r.assumed + stepWindow t.step ≤ depthOf s t.conv)
      | .up => decide (depthOf s t.conv ≤ r.assumed - stepWindow t.step)
    testExhaustion t s =
      setSearch (tripDrum t) (some { r with exhausted := r.exhausted || reached }) s) ∧
  ∀ (d : Drum) (s : State), s.powered = true →
    let t := drumTrack s d
    let due : Bool :=
      s.cfs.inForce.isSome && !t.faultLine && !t.standstill && decide (20 ≤ t.quiet)
    let conv := referenceConv d
    let origin : OriginStatus := if posOf s conv = .unknown then .unset
      else match currentLevel (cfg s) conv (depthOf s conv) with
        | some n => .atLevel n
        | none => .outside
    let waived (v : Trip) : Bool := decide (origin = .outside) && waiting v && decide (v.conv = conv) &&
      v.required.origin && !v.held.origin
    let settles (u : State) (outcome : SettleEnd) : Prop :=
      u.msq = { s.msq with
        winder := .running .settling, settle := some outcome
        ceiling := ⟨0, .braked, none, none⟩
        phaseTimer := some (.brakeSet (s.now + (cfg s).params.brakeSetDelay.toNat)) }
    let withdrawn : Cpl := match d with
      | .d1 => { s.cpl with brk1 := false, watch1 := .held t.count 0 }
      | .d2 => { s.cpl with brk2 := false, watch2 := .held t.count 0 }
    (due = false → exec (.standstillReached d) s = .next s) ∧
    (due = true →
      (∀ v ∈ s.tqm.trips, v.state = .ready → v.held = v.required ∨ pastDeadline s v = false) →
      ∃ u, exec (.standstillReached d) s = .next u ∧ drumTrack u d = { t with standstill := true } ∧
        drumTrack u (otherDrum d) = drumTrack s (otherDrum d) ∧ originOf u.tqm conv = origin ∧
        u.hlc.places = s.hlc.places ∧ u.slc = s.slc ∧ u.pfu = s.pfu ∧ u.cfs = s.cfs ∧ u.now = s.now ∧
        (currentTrip s = none →
          u.tqm.trips = s.tqm.trips.map (fun v =>
            if waived v then settled { v with held := { v.held with origin := true } } else v) ∧
          u.msq = s.msq ∧ u.prt = s.prt ∧
          (permitOf s d = true ∨ (∃ count moved, watchOf s d = .held count moved) → u.cpl = s.cpl) ∧
          (permitOf s d = false → (∀ count moved, watchOf s d ≠ .held count moved) →
            u.cpl = match d with
              | .d1 => { s.cpl with watch1 := .held t.count 0 }
              | .d2 => { s.cpl with watch2 := .held t.count 0 })) ∧
        (∀ run stop, currentTrip s = some run → waiting run = false → tripDrum run = d →
          run.kind ≠ .search → tripStop s run = some stop → permitOf s d = true →
          let within : Prop :=
            ((stop - depthOf s run.conv).natAbs : Int) ≤ (cfg s).params.stopWindow
          (s.msq.winder = .running .moving → within → settles u .arrived ∧ u.cpl = withdrawn) ∧
          (s.msq.winder = .running .moving → ¬ within → u.msq = s.msq ∧ u.cpl = s.cpl) ∧
          (s.msq.winder = .stopping .decelerating →
            u.msq = { s.msq with
              winder := .stopping .setting
              ceiling := ⟨0, .braked, none, none⟩
              phaseTimer := some (.brakeSet (s.now + (cfg s).params.brakeSetDelay.toNat)) } ∧
            u.cpl = withdrawn)) ∧
        (∀ run r, currentTrip s = some run → waiting run = false → tripDrum run = d →
          run.kind = .search → searchOf s d = some r → permitOf s d = true →
          s.msq.winder = .running .moving →
          let next : SearchRec := { r with
            dir := if r.dir = .down then .up else .down, exhausted := false }
          (r.found = true → settles u .arrived ∧ u.cpl = withdrawn) ∧
          (r.found = false → r.exhausted = false → u.msq = s.msq ∧ u.cpl = s.cpl) ∧
          (r.found = false → r.exhausted = true → 4 ≤ run.step →
            settles u .aborted ∧ u.cpl = withdrawn) ∧
          (r.found = false → r.exhausted = true → run.step < 4 →
            searchOf u d = some next ∧ searchOf u (otherDrum d) = searchOf s (otherDrum d) ∧
            u.msq.winder = .running .moving ∧ u.msq.direction = some next.dir ∧
            u.msq.ceiling = broughtTo (cfg s).params s.now (movingTarget u run) s.msq.ceiling ∧
            (∀ v ∈ u.tqm.trips, v.id = run.id → v.step = run.step + 1) ∧ u.cpl = s.cpl)))

/-- R31, R33 to R38, R44, R45: a mark pulse is disregarded while no configuration is in force, the fault line is
asserted or the drum stands, and for an UNKNOWN conveyance without a search that it may reach. Otherwise it
corrects the drift by the error, grades the position and ends MARK_MISSED, or, as a slip, leaves the drift,
makes the conveyance UNKNOWN and raises MARK_SLIP; a compartment without marks makes every pulse a slip. In a
search, which is never of the COUNTERWEIGHT (StepsKeepQueueAndRunSound), that takes pulses it places the
conveyances at the mark found in the band, and does nothing without one. At a sample off standstill a
next-expected mark passed by more than SUSPECT_TOL is missed: the miss count rises by one, to 15 at most, the
position is SUSPECT, the mark advances, and a count that reaches MISS_LIMIT makes MARK_MISSED present. The
model's choice: notes/assumptions/8, 24 and 27 (the order inside a sample; the count the depths use; which
pulses count for a search). -/
def Obligations.MarkPulsesCorrectDepths : Prop :=
  (∀ (comp : Compartment) (s : State), s.powered = true →
    let conv := compConv comp
    let d := convDrum conv
    let t := drumTrack s d
    let c := convTrack s conv
    let depth := depthAt s conv t.count
    let marks := marksOf (cfg s) comp
    let heard : Prop := s.cfs.inForce.isSome = true ∧ t.faultLine = false ∧ t.standstill = false
    let searching (run : Trip) (r : SearchRec) : Prop := activeTrip s = some run ∧
      run.kind = .search ∧ run.conv = conv ∧ searchOf s d = some r ∧ r.found = false
    let slips : Prop := actionInForce s .markSlip ≠ .off → ∃ u, exec (.markPulse comp) s = .next u ∧
      convTrack u conv = { c with pos := .unknown, expected := none } ∧
      (∀ other, other ≠ conv → convTrack u other = convTrack s other) ∧
      drumTrack u d = { t with used := t.count } ∧ (comp ≠ .w → originOf u.tqm conv = .unset) ∧
      ∃ e, entryOf u .markSlip = some e ∧ setHas e.subjects (convNumber conv) = true
    (¬ heard → exec (.markPulse comp) s = .next s) ∧
    (heard → (∀ run r, ¬ searching run r) →
      (c.pos = .unknown → exec (.markPulse comp) s = .next s) ∧
      (c.pos ≠ .unknown → marks = [] → slips) ∧
      (∀ k mark, c.pos ≠ .unknown → nearestMark marks depth = some (k, mark) →
        let error : Int := mark - depth
        let slip : Prop := (cfg s).params.suspectTol < (error.natAbs : Int) ∨
          (cfg s).params.offsetLimit < ((c.drift + error).natAbs : Int)
        let pos : PosState :=
          if (error.natAbs : Int) ≤ (cfg s).params.snapTol then .reconciled else .suspect
        let corrected (v : ConvTrack) : ConvTrack := { v with
          drift := v.drift + error
          pos := pos
          misses := 0
          expected := c.dir.bind (fun dir => (nextMark marks dir mark).map (fun m => m.1)) }
        (¬ slip → isPresent s .markMissed (convNumber conv) = false →
          exec (.markPulse comp) s = .next { s with
            hlc := noted [.mark .accepted conv k (some error) (c.drift + error) pos 0 0 none] s.hlc
            dpt := (onConv conv corrected (onDrum d (fun v => { v with used := v.count }) s)).dpt }) ∧
        (¬ slip → ∃ u, exec (.markPulse comp) s = .next u ∧
          isPresent u .markMissed (convNumber conv) = false ∧
          u.dpt = (onConv conv corrected (onDrum d (fun v => { v with used := v.count }) s)).dpt) ∧
        (slip → slips))) ∧
    (∀ run r, comp ≠ .w → heard → searching run r →
      let counts : Prop := s.msq.winder = .running .moving ∨
        s.msq.settle = none ∧ ((∃ stage, s.msq.winder = .stopping stage) ∨ r.exhausted = true)
      let inBand (mark : Int) : Prop :=
        r.assumed - stepWindow run.step ≤ mark ∧ mark ≤ r.assumed + stepWindow run.step
      (∀ k mark, counts → nearestMark marks depth = some (k, mark) → inBand mark →
        ∃ u, exec (.markPulse comp) s = .next u ∧ posOf u conv = .reconciled ∧ depthOf u conv = mark ∧
          (convTrack u conv).drift = 0 ∧ (convTrack u conv).misses = 0 ∧
          isPresent u .markMissed (convNumber conv) = false ∧
          searchOf u d = some { r with found := true } ∧
          (d = .d1 → posOf u .counterweight = .suspect ∧
            depthOf u .counterweight = (cfg s).params.linkSum - mark ∧
            (convTrack u .counterweight).drift = 0)) ∧
      (¬ counts ∨ (∀ k mark, nearestMark marks depth = some (k, mark) → ¬ inBand mark) →
        exec (.markPulse comp) s = .next s))) ∧
  ∀ (conv : Conveyance) (s : State), s.powered = true →
    let d := convDrum conv
    let t := drumTrack s d
    let c := convTrack s conv
    let p := (cfg s).params
    let depth := depthAt s conv t.count
    let marks := marksOf (cfg s) (convComp conv)
    let history : List Int :=
      if t.resume then List.replicate 11 t.count else (t.count :: t.history).take 11
    let speed : Int := ((t.count - history.getLastD 0) * 10000).tdiv (scaleOf p d) *
      (if conv = .counterweight then -1 else 1)
    let passed (dir : Dir) (mark : Int) : Prop := match dir with
      | .down => mark + p.suspectTol < depth
      | .up => depth < mark - p.suspectTol
    s.cfs.inForce.isSome = true → t.faultLine = false → t.standstill = false →
    (t.resume = true ∨ (((t.count - t.history.headD 0).natAbs : Int) * 1000).tdiv (scaleOf p d) ≤ 30) →
    -2147483648 < t.count → t.count < 2147483647 → c.pos ≠ .unknown → c.aimDue = false →
    tableSorted marks = true →
    ∀ dir k mark, c.dir = some dir → (speed.natAbs ≤ 2 ∨ (dir = .down ↔ 0 < speed)) →
      c.expected = some k → tableGet k marks = some mark →
      (¬ passed dir mark → ∃ u, exec (.drumSample d) s = .next u ∧ convTrack u conv = c) ∧
      (passed dir mark → (∀ j m, nextMark marks dir mark = some (j, m) → ¬ passed dir m) →
        ∃ u, exec (.drumSample d) s = .next u ∧
          convTrack u conv = { c with
            misses := min 15 (c.misses + 1)
            pos := .suspect
            expected := (nextMark marks dir mark).map (fun m => m.1) } ∧
          (p.missLimit ≤ ((min 15 (c.misses + 1) : Nat) : Int) →
            isPresent u .markMissed (convNumber conv) = true))

/-- R22, R28, R152, R154, R155, R163 to R165: an edge pair moves the count by one, up to the ends of its range; a
fault line that clears lets the next sample reset the history; a limit or slack-rope line changes its reading
and reports its condition present or gone. A present report is a raise where the condition was not present, and
a gone report takes the subject from the presence record: under LATCHED and RETRY the entry is HELD once none of
its subjects is present, under SELF the subject leaves it, and the last one removes it, with the reports of that
removal. A raise that finds an entry adds the subject and applies no action: a condition held over time makes
the entry ACTIVE with its timer cancelled, a momentary one HELD with its timer started again. The model's
choice: notes/assumptions/12 and 14 (several edge pairs in one command; a fault line cleared that is clear, and
a level already shown). -/
def Obligations.LinesMoveTheirOwnReadings : Prop :=
  (∀ (s : State) (p : Protection) (n : Nat),
    let entries (change : FaultEntry) : List FaultEntry :=
      s.prt.entries.map (fun x => if x.prot = p then change else x)
    let overTime : Prop := p ∈ [.overspeed, .overwind, .ultimateLimit, .slackRope, .markMissed,
      .linkMismatch, .clutchMismatch, .stationLost, .stationHold, .pathGate]
    let record (subjects : SubjectSet) : State :=
      { s with prt := { s.prt with presence := s.prt.presence.set (protIdx p) subjects } }
    let left : SubjectSet := setErase n (presence s p)
    let goes (u : State) (es : List FaultEntry) (first : Option FirstOut) : Prop :=
      u.prt = { (record left).prt with entries := es, firstOut := first } ∧ u.slc = s.slc ∧
      u.dpt = s.dpt ∧ u.tqm = s.tqm ∧ u.hlc.places = s.hlc.places ∧ u.now = s.now
    let kept (u : State) : Prop := u.msq = s.msq ∧ u.cpl = s.cpl ∧ u.pfu = s.pfu ∧ u.cfs = s.cfs
    (isPresent s p n = true → present p n s = s) ∧
    (isPresent s p n = false →
      present p n s = raise p n (record (setInsert n (presence s p))) ∧ gone p n s = s) ∧
    (isPresent s p n = true → entryOf s p = none → gone p n s = record left) ∧
    (∀ e, isPresent s p n = true → entryOf s p = some e → e.recovery ≠ .self →
      (e.isHeld = true ∨ e.subjects &&& left ≠ 0 → gone p n s = record left) ∧
      (e.isHeld = false → e.subjects &&& left = 0 → kept (gone p n s) ∧
        goes (gone p n s) (entries { e with
          isHeld := true
          deadline := if e.recovery = .retry then some (s.now + e.retryTime * 1000) else none })
          s.prt.firstOut)) ∧
    (∀ e, isPresent s p n = true → entryOf s p = some e → e.recovery = .self →
      (setErase n e.subjects ≠ 0 → kept (gone p n s) ∧
        goes (gone p n s) (entries { e with subjects := setErase n e.subjects }) s.prt.firstOut) ∧
      (setErase n e.subjects = 0 →
        let es := s.prt.entries.filter (fun x => !decide (x.prot = p))
        let ended : Bool := holdsAction .emergency s.prt.entries && !holdsAction .emergency es
        goes (gone p n s) es (if es = [] then none else s.prt.firstOut) ∧
        (gone p n s).cpl = { s.cpl with block := if ended then false else s.cpl.block } ∧
        (gone p n s).msq.creepClamp = (if holdsAction .creep s.prt.entries && !holdsAction .creep es
          then false else s.msq.creepClamp) ∧
        (gone p n s).msq.winder =
          (if ended = true ∧ s.msq.winder = .tripped then .parked else s.msq.winder))) ∧
    (∀ e, entryOf s p = some e →
      let again : FaultEntry := { e with subjects := setInsert n e.subjects }
      let u := raise p n s
      (overTime → u.prt.entries = entries { again with isHeld := false, deadline := none }) ∧
      (¬ overTime → u.prt.entries = entries { again with
        isHeld := true
        deadline := if e.recovery = .retry then some (s.now + e.retryTime * 1000) else none }) ∧
      u.prt.presence = s.prt.presence ∧ u.prt.firstOut = s.prt.firstOut ∧ kept u ∧
      u.slc = s.slc ∧ u.dpt = s.dpt ∧ u.tqm = s.tqm ∧ u.hlc.places = s.hlc.places)) ∧
  ∀ s : State, s.powered = true →
    let counted (up : Bool) (pairs : Nat) (count : Int) : Int :=
      if up = true then min 2147483647 (count + pairs) else max (-2147483648) (count - pairs)
    let drum (d : Drum) (t : DrumTrack) : Dpt := match d with
      | .d1 => { s.dpt with drum1 := t }
      | .d2 => { s.dpt with drum2 := t }
    (∀ d up pairs, exec (.encoderEdge d up pairs) s = .next { s with
      dpt := drum d { drumTrack s d with count := counted up pairs (drumTrack s d).count } }) ∧
    (∀ d, (drumTrack s d).faultLine = true → exec (.encoderFaultLineClear d) s = .next { s with
      dpt := drum d { drumTrack s d with faultLine := false, resume := true } }) ∧
    (∀ d, (drumTrack s d).faultLine = false → exec (.encoderFaultLineClear d) s = .next s) ∧
    (∀ comp, let reading (opened : Bool) : Prt := match comp with
        | .c => { s.prt with ultC := opened }
        | .w => { s.prt with ultW := opened }
        | .s => { s.prt with ultS := opened }
      exec (.ultimateLimitChange comp true) s =
        .next (present .ultimateLimit (compNumber comp) { s with prt := reading true }) ∧
      exec (.ultimateLimitChange comp false) s =
        .next (gone .ultimateLimit (compNumber comp) { s with prt := reading false })) ∧
    (∀ comp, let reading (slack : Bool) : Prt := match comp with
        | .c => { s.prt with slkC := slack }
        | .w => { s.prt with slkW := slack }
        | .s => { s.prt with slkS := slack }
      exec (.slackRopeChange comp true) s =
        .next (present .slackRope (compNumber comp) { s with prt := reading true }) ∧
      exec (.slackRopeChange comp false) s =
        .next (gone .slackRope (compNumber comp) { s with prt := reading false }))

/-! ## The effective ceiling -/

/-- R9: the four cases of the retard-ceiling lookup, in order, each with the row that gives the ceiling. -/
def Obligations.RetardCeilingByFourCases : Prop :=
  ∀ (c : Configuration) (drum : Drum) (d : Int) (first last : Nat × RetardRow),
    (retardOf c drum).head? = some first → (retardOf c drum).getLast? = some last →
    tableSorted (retardOf c drum) = true →
    (last.2.distance < d → retardCeiling c drum d = none) ∧
    (d ≤ last.2.distance → c.params.stopWindow < d →
      ∃ k r, (k, r) ∈ retardOf c drum ∧ d ≤ r.distance ∧
        (∀ p ∈ retardOf c drum, d ≤ p.2.distance → k ≤ p.1) ∧
        retardCeiling c drum d = some (r.ceiling, .retard k)) ∧
    (d ≤ last.2.distance → d ≤ c.params.stopWindow → -c.params.stopWindow ≤ d →
      retardCeiling c drum d = some (first.2.ceiling, .retard first.1)) ∧
    (d ≤ last.2.distance → d ≤ c.params.stopWindow → d < -c.params.stopWindow →
      retardCeiling c drum d = some (0, .retardPast))

/-- R6, R7, R122 to R124, R126, R127, R159: in MOVING the target of a trip to a level is the lowest of its base
speed, the ceilings of the enabled zones that cover a conveyance of its drum, its retard ceiling and, under the
creep clamp, CREEP_SPEED; the target of a search is CREEP_SPEED, or 0 under the hold. In DECELERATING it is 0, and
elsewhere there is none. Bringing the ceiling to a target follows the three cases of R123. The clamp goes on with
the first CREEP entry; in MOVING the ceiling then follows at once, and elsewhere nothing else changes. A forward
speed above the ceiling by more than the margin, or a reverse speed above 5 cm/s, is an excess: it starts the
excess time, makes OVERSPEED present once it has lasted longer than OVERSPEED_DEGLITCH, and its end clears both. -/
def Obligations.CeilingFollowsLowestTerm : Prop :=
  (∀ (s : State) (t : Trip), s.msq.winder = .running .moving → currentTrip s = some t →
    let p := (cfg s).params
    let covering (n : Nat) (z : ZoneEntry) : Prop := (n, z) ∈ (cfg s).zones ∧ z.enabled = true ∧
      convDrum (compConv z.comp) = tripDrum t ∧ z.start ≤ depthOf s (compConv z.comp) ∧
      depthOf s (compConv z.comp) ≤ z.start + z.range
    let retard (r : Nat × Source) : Prop :=
      ∃ togo, distanceToGo s t = some togo ∧ retardCeiling (cfg s) (tripDrum t) togo = some r
    ∃ v source, targetNow s = some (v, source) ∧
      (t.kind = .search → v = if searchHold s (tripDrum t) then 0 else p.creepSpeed.toNat) ∧
      (t.kind ≠ .search → v ≤ baseSpeed p t.kind ∧ (∀ n z, covering n z → v ≤ z.ceiling) ∧
        (∀ r, retard r → v ≤ r.1) ∧ (s.msq.creepClamp = true → v ≤ p.creepSpeed.toNat) ∧
        (v = baseSpeed p t.kind ∧ source = .base ∨
          (∃ n z, covering n z ∧ v = z.ceiling ∧ source = .zone n) ∨
          (∃ r, retard r ∧ v = r.1 ∧ source = r.2) ∨
          s.msq.creepClamp = true ∧ v = p.creepSpeed.toNat ∧ source = .creep))) ∧
  (∀ s : State, s.msq.winder = .stopping .decelerating → targetNow s = some (0, .stop)) ∧
  (∀ s : State, s.msq.winder ≠ .running .moving → s.msq.winder ≠ .stopping .decelerating →
    targetNow s = none) ∧
  (∀ (p : Params) (now : Nat) (target : Nat × Source) (c : Ceiling),
    (c.value ≤ target.1 → broughtTo p now target c = ⟨target.1, target.2, some target.1, none⟩) ∧
    (target.1 < c.value → c.ramp = none →
      broughtTo p now target c = ⟨c.value, .ramp, some target.1, some ⟨c.value, now, target.1⟩⟩) ∧
    (∀ r, target.1 < c.value → c.ramp = some r →
      let fallen : Int := ((r.start : Int) * 1000 - p.controlledDecel * ((now : Int) - r.startedAt)).tdiv 1000
      (fallen ≤ target.1 → broughtTo p now target c = ⟨target.1, target.2, some target.1, none⟩) ∧
      (target.1 < fallen → broughtTo p now target c =
        ⟨fallen.toNat, .ramp, some target.1, some { r with target := target.1 }⟩))) ∧
  (∀ (s : State) (on : Bool), let clamped : State := { s with msq := { s.msq with creepClamp := on } }
    (s.msq.winder ≠ .running .moving → setClamp on s = clamped) ∧
    (∀ target, s.msq.winder = .running .moving → targetNow clamped = some target →
      (setClamp on s).msq = { s.msq with
        creepClamp := on
        ceiling := broughtTo (cfg s).params s.now target s.msq.ceiling })) ∧
  (∀ (s : State) (p : Protection) (n : Nat), entryOf s p = none → actionInForce s p = .creep →
    (∀ e ∈ s.prt.entries, e.action ≠ .creep) → (raise p n s).msq.creepClamp = true ∧
      ∃ e, (raise p n s).prt.entries = s.prt.entries ++ [e] ∧ e.prot = p ∧ e.action = .creep) ∧
  ∀ (s : State) (t : Trip),
    let n := drumNumber (tripDrum t)
    let p := (cfg s).params
    let ceiling : Int := s.msq.ceiling.value
    let forward : Int := if s.msq.direction = some .up then -convSpeed s t.conv else convSpeed s t.conv
    let excess : Prop :=
      ceiling + max ((ceiling * p.overspeedMargin).tdiv 100) 10 < forward ∨ forward < -5
    (¬ excess → (testExcess t s).msq.excessStart = none ∧
      isPresent (testExcess t s) .overspeed n = false) ∧
    (excess → s.msq.excessStart = none →
      testExcess t s = { s with msq := { s.msq with excessStart := some s.now } }) ∧
    (∀ start, excess → s.msq.excessStart = some start →
      (s.now : Int) - start ≤ p.overspeedDeglitch → testExcess t s = s) ∧
    (∀ start, excess → s.msq.excessStart = some start → p.overspeedDeglitch < (s.now : Int) - start →
      testExcess t s = present .overspeed n s ∧
      (isPresent s .overspeed n = false → entryOf s .overspeed = none →
        (actionInForce s .overspeed ≠ .off → (protRow (cfg s) .overspeed).recovery ≠ .self →
          ∃ e, entryOf (testExcess t s) .overspeed = some e ∧ setHas e.subjects n = true)))

/-! ## Clutches and the expiries of the run -/

/-- R136, R138, R139, R142, R143: a clutch contradicts its reading exactly by R142, and a new reading makes
CLUTCH_MISMATCH present exactly then. A reading that completes a release begins the engagement of the target
drum; one that completes the engagement in CHANGEOVER ends the changeover and enters PROVING. -/
def Obligations.ClutchReadingsMoveChangeovers : Prop :=
  (∀ c : Clutch, contradicts c = true ↔
    c.state = .engaged ∧ c.reading ≠ .atEngaged ∨ c.state = .free ∧ c.reading ≠ .atFree) ∧
  ∀ (d : Drum) (r : ClutchReading) (s : State), s.powered = true →
    let clutch : Clutch := { clutchOf s d with reading := r }
    let timer : Option Nat := some (s.now + (cfg s).params.clutchTime.toNat * 1000)
    (s.cpl.changeover = none → isPresent s .clutchMismatch (drumNumber d) = contradicts clutch →
      exec (.clutchReadingChange d r) s = .next { s with cpl := match d with
        | .d1 => { s.cpl with clutch1 := clutch }
        | .d2 => { s.cpl with clutch2 := clutch } }) ∧
    (s.cpl.changeover = none → ∃ u, exec (.clutchReadingChange d r) s = .next u ∧
      clutchOf u d = clutch ∧ isPresent u .clutchMismatch (drumNumber d) = contradicts clutch) ∧
    (presence s .clutchMismatch = 0 → s.cpl.changeover = some ⟨otherDrum d, some .release⟩ → r = .atFree →
      (clutchOf s (otherDrum d)).state ≠ .engaged → (clutchOf s (otherDrum d)).reading ≠ .atEngaged →
      exec (.clutchReadingChange d r) s = .next { s with cpl := match d with
        | .d1 => { s.cpl with
            dis1 := false, eng2 := true, clutch1 := ⟨.atFree, .free, none⟩
            clutch2 := { s.cpl.clutch2 with state := .engaging, timer := timer }
            changeover := some ⟨.d2, some .engage⟩ }
        | .d2 => { s.cpl with
            dis2 := false, eng1 := true, clutch2 := ⟨.atFree, .free, none⟩
            clutch1 := { s.cpl.clutch1 with state := .engaging, timer := timer }
            changeover := some ⟨.d1, some .engage⟩ } }) ∧
    (∀ t, presence s .clutchMismatch = 0 → s.cpl.changeover = some ⟨d, some .engage⟩ → r = .atEngaged →
      s.msq.winder = .changeover → currentTrip s = some t → s.cpl.block = false →
      ∃ u, exec (.clutchReadingChange d r) s = .next u ∧
        u.cpl = (match d with
          | .d1 => { s.cpl with
              eng1 := false, drv := true, clutch1 := ⟨.atEngaged, .engaged, none⟩, changeover := none }
          | .d2 => { s.cpl with
              eng2 := false, drv := true, clutch2 := ⟨.atEngaged, .engaged, none⟩, changeover := none }) ∧
        u.msq = { s.msq with
          winder := .running .proving, ceiling := ⟨0, .braked, none, none⟩
          direction := runDirection s t
          phaseTimer := some (.torque (s.now + (cfg s).params.torqueDelay.toNat)) } ∧
        u.hlc.places = s.hlc.places ∧ u.slc = s.slc ∧ u.pfu = s.pfu ∧ u.dpt = s.dpt ∧ u.tqm = s.tqm ∧
        u.prt = s.prt ∧ u.cfs = s.cfs ∧ u.now = s.now)

/-- R109, R115, R140, R141, R162, R163: the movement timer of a clutch: the command is released and the clutch is
UNSURE. An entry of CLUTCH_TIMEOUT that stands is HELD again and the changeover stays recorded with no movement;
a new CONTROLLED entry ends the changeover and suspends a trip that is not a found search. A timer that does not
run does nothing. The model's choice: notes/assumptions/1 and 14 (the clock at an expiry; an expiry without its
timer). -/
def Obligations.ClutchTimeoutStopsChangeover : Prop :=
  ∀ (d : Drum) (s : State), s.powered = true →
    ((clutchOf s d).timer = none ∨ s.cpl.changeover = none → exec (.clutchTimeExpiry d) s = .next s) ∧
    ∀ (target : Drum) (m : Movement) (deadline : Nat), (clutchOf s d).timer = some deadline →
      s.cpl.changeover = some ⟨target, some m⟩ →
      (m = .release ∧ d = otherDrum target ∨ m = .engage ∧ d = target) →
      let now : Nat := max s.now deadline % 2 ^ 48
      let row : ProtRow := (cfg s).protections[protIdx .clutchTimeout]
      let stopped (left : Option Changeover) : Cpl := match d, m with
        | .d1, .release => { s.cpl with
            dis1 := false, changeover := left, clutch1 := ⟨s.cpl.clutch1.reading, .unsure, none⟩ }
        | .d1, .engage => { s.cpl with
            eng1 := false, changeover := left, clutch1 := ⟨s.cpl.clutch1.reading, .unsure, none⟩ }
        | .d2, .release => { s.cpl with
            dis2 := false, changeover := left, clutch2 := ⟨s.cpl.clutch2.reading, .unsure, none⟩ }
        | .d2, .engage => { s.cpl with
            eng2 := false, changeover := left, clutch2 := ⟨s.cpl.clutch2.reading, .unsure, none⟩ }
      (∀ e, entryOf s .clutchTimeout = some e → ∃ u, exec (.clutchTimeExpiry d) s = .next u ∧
        u.now = now ∧ u.cpl = stopped (some ⟨target, none⟩) ∧ u.msq = s.msq ∧ u.tqm = s.tqm ∧
        u.slc = s.slc ∧ u.dpt = s.dpt ∧ u.cfs = s.cfs ∧
        entryOf u .clutchTimeout = some { e with
          subjects := setInsert (drumNumber d) e.subjects
          isHeld := true
          deadline := if e.recovery = .retry then some (now + e.retryTime * 1000) else none }) ∧
      (∀ t, entryOf s .clutchTimeout = none → actionInForce s .clutchTimeout = .controlled →
        s.msq.winder = .changeover → s.msq.current = some t.id →
        s.tqm.trips.filter (fun v => decide (v.id = t.id)) = [t] → t.state = .active →
        (∀ v ∈ s.tqm.trips, v.id ≠ t.id → waiting v = true) → quietStations s →
        presence s .overspeed = 0 → (∀ e ∈ s.prt.entries, e.action ≠ .emergency) →
        (t.kind = .search → ∀ r, searchOf s (tripDrum t) = some r → r.found = false) →
        ∃ u, exec (.clutchTimeExpiry d) s = .next u ∧ u.now = now ∧ u.cpl = stopped none ∧
          u.msq.winder = .halted ∧ u.msq.current = some t.id ∧
          u.tqm.trips = s.tqm.trips.map (fun v =>
            if v.id = t.id then { v with state := .suspended } else v) ∧
          u.prt.entries = s.prt.entries ++ [{
            prot := .clutchTimeout, action := .controlled, recovery := row.recovery
            retryTime := row.retryTime, subjects := setOne (drumNumber d), isHeld := true
            raisedAt := now
            deadline := if row.recovery = .retry then some (now + row.retryTime * 1000) else none }] ∧
          u.dpt = s.dpt ∧ u.cfs = s.cfs)

/-- R110, R122, R123: TORQUE_DELAY runs out in PROVING: the phase is MOVING, the permit of the trip's drum is
asserted and its watch ends, and the ceiling rises from 0 to the target at once. The model's choice:
notes/assumptions/1 and 14 (the clock at an expiry; an expiry without its timer). -/
def Obligations.TorqueDelayEndsInMoving : Prop :=
  ∀ s : State, s.powered = true →
    ((∀ deadline, s.msq.phaseTimer ≠ some (.torque deadline)) ∨ s.msq.winder ≠ .running .proving →
      exec .torqueDelayExpiry s = .next s) ∧
    (∀ (t : Trip) (deadline : Nat), s.msq.phaseTimer = some (.torque deadline) →
      s.msq.winder = .running .proving → currentTrip s = some t → s.cpl.block = false →
      permitOf s (tripDrum t) = false → s.msq.ceiling.value = 0 →
      let target := movingTarget s t
      ∃ u, exec .torqueDelayExpiry s = .next u ∧ u.now = max s.now deadline % 2 ^ 48 ∧
        u.msq = { s.msq with
          winder := .running .moving, phaseTimer := none
          ceiling := ⟨target.1, target.2, some target.1, none⟩ } ∧
        u.cpl = (match tripDrum t with
          | .d1 => { s.cpl with brk1 := true, watch1 := .none }
          | .d2 => { s.cpl with brk2 := true, watch2 := .none }) ∧
        u.hlc.places = s.hlc.places ∧ u.slc = s.slc ∧ u.pfu = s.pfu ∧ u.dpt = s.dpt ∧ u.tqm = s.tqm ∧
        u.prt = s.prt ∧ u.cfs = s.cfs)

/-- R19, R76, R77, R113, R116, R131, R205: BRAKE_SET_DELAY runs out: DRV is withdrawn. An arrived run, and a stopped
search that has found its mark, removes its trip and parks the winder, where the staged edits are applied in
buffer order; any other stop suspends its trip and leaves the winder HALTED; a failed search removes its trip
and raises RECONCILE_FAIL for its drum. Without the timer nothing changes. The model's choice:
notes/assumptions/1 and 14 (the clock at an expiry; an expiry without its timer). -/
def Obligations.BrakeSetDelayEndsRun : Prop :=
  ∀ s : State, s.powered = true →
    ((∀ deadline, s.msq.phaseTimer ≠ some (.brakeSet deadline)) →
      exec .brakeSetDelayExpiry s = .next s) ∧
    (∀ (t : Trip) (deadline : Nat), s.msq.phaseTimer = some (.brakeSet deadline) →
      s.msq.current = some t.id → s.tqm.trips.filter (fun v => decide (v.id = t.id)) = [t] →
      t.state = .active → (∀ v ∈ s.tqm.trips, v.id ≠ t.id → waiting v = true) → quietStations s →
      presence s .overspeed = 0 → (∀ e ∈ s.prt.entries, e.action ≠ .emergency) →
      let settling : Prop := s.msq.winder = .running .settling
      let setting : Prop := s.msq.winder = .stopping .setting
      let found : Prop := t.kind = .search ∧
        ∃ r, searchOf s (tripDrum t) = some r ∧ r.found = true
      let common (u : State) : Prop :=
        exec .brakeSetDelayExpiry s = .next u ∧ u.now = max s.now deadline % 2 ^ 48 ∧
        u.cpl = { s.cpl with drv := false } ∧
        u.slc = { s.slc with path := 0, originStation := none } ∧ u.dpt = s.dpt ∧ u.prt = s.prt ∧
        u.hlc.places = s.hlc.places
      (settling ∧ s.msq.settle = some .arrived ∨ setting ∧ s.msq.settle = none ∧ found →
        ∃ u, common u ∧
        u.msq = { s.msq with
          winder := .parked, current := none, phaseTimer := none, stopStart := none, settle := none
          excessStart := none, ceiling := ⟨0, .none, none, none⟩
          search1 := if t.kind = .search ∧ tripDrum t = .d1 then none else s.msq.search1
          search2 := if t.kind = .search ∧ tripDrum t = .d2 then none else s.msq.search2 } ∧
        u.tqm = { s.tqm with trips := s.tqm.trips.filter (fun v => !decide (v.id = t.id)) } ∧
        u.pfu.staged = [] ∧ u.cfs = { s.cfs with
          inForce := s.cfs.inForce.map (fun c => s.pfu.staged.foldl writeEdit c) }) ∧
      (setting → s.msq.settle = none → ¬ found → ∃ u, common u ∧
        u.msq = { s.msq with
          winder := .halted, phaseTimer := none, stopStart := none, excessStart := none
          ceiling := ⟨0, .none, none, none⟩ } ∧
        u.tqm = { s.tqm with trips := s.tqm.trips.map (fun v =>
          if v.id = t.id then { v with state := .suspended } else v) } ∧
        u.pfu = s.pfu ∧ u.cfs = s.cfs) ∧
      (settling ∨ setting → s.msq.settle = some .aborted → actionInForce s .reconcileFail ≠ .off →
        ∃ u, exec .brakeSetDelayExpiry s = .next u ∧ u.now = max s.now deadline % 2 ^ 48 ∧
        u.cpl.drv = false ∧ u.msq.current = none ∧
        (u.msq.winder = .parked ∨ u.msq.winder = .tripped) ∧
        u.tqm.trips = s.tqm.trips.filter (fun v => !decide (v.id = t.id)) ∧ u.pfu.staged = [] ∧
        u.dpt = s.dpt ∧ ∃ e, entryOf u .reconcileFail = some e ∧
          setHas e.subjects (drumNumber (tripDrum t)) = true))

/-- R19, R67, R120, R160, R166, R167, R169: RETRY_TIMER_EXPIRY removes the entry whose retry deadline stands, which
takes a TRIPPED winder to PARKED, the staged edits applied, where it was the last EMERGENCY entry, and
PENDING_EXPIRY removes a PENDING trip EXPIRED; without a deadline, and for a trip that is not PENDING, nothing
changes. The model's choice: notes/assumptions/1, 11 and 14 (the clock at an expiry; when an age exceeds
PENDING_LIMIT; an expiry without its timer). -/
def Obligations.RetryAndPendingExpiriesRemove : Prop :=
  ∀ s : State, s.powered = true →
    (∀ p, (∀ e, entryOf s p = some e → e.deadline = none) →
      exec (.retryTimerExpiry p) s = .next s) ∧
    (∀ p e deadline, entryOf s p = some e → e.deadline = some deadline →
      let left := s.prt.entries.filter (fun x => !decide (x.prot = p))
      let ended : Bool := holdsAction .emergency s.prt.entries && !holdsAction .emergency left
      ∃ u, exec (.retryTimerExpiry p) s = .next u ∧ u.now = max s.now deadline % 2 ^ 48 ∧
        u.prt = { s.prt with
          entries := left, firstOut := if left = [] then none else s.prt.firstOut } ∧
        u.cpl = { s.cpl with block := if ended then false else s.cpl.block } ∧
        (ended = true ∧ s.msq.winder = .tripped → u.msq.winder = .parked ∧
          u.msq.ceiling = ⟨0, .none, none, none⟩ ∧ u.pfu.staged = [] ∧ u.cfs = { s.cfs with
            inForce := s.cfs.inForce.map (fun c => s.pfu.staged.foldl writeEdit c) }) ∧
        (ended = false ∨ s.msq.winder ≠ .tripped →
          u.msq.winder = s.msq.winder ∧ u.pfu = s.pfu ∧ u.cfs = s.cfs) ∧
        u.hlc.places = s.hlc.places ∧ u.slc = s.slc ∧ u.dpt = s.dpt ∧ u.tqm = s.tqm) ∧
    (∀ id, (∀ t, tripById s id = some t → t.state ≠ .pending) →
      exec (.pendingExpiry id) s = .next s) ∧
    (∀ t, s.tqm.trips.filter (fun v => decide (v.id = t.id)) = [t] → t.state = .pending →
      exec (.pendingExpiry t.id) s = .next { s with
        now := max s.now (t.requestedAt + (cfg s).params.pendingLimit.toNat * 1000 + 1) % 2 ^ 48
        hlc := noted [.trip .removed t (some .expired)] s.hlc
        tqm := { s.tqm with trips := s.tqm.trips.filter (fun v => !decide (v.id = t.id)) }
        msq := { s.msq with
          search1 := if t.kind = .search ∧ tripDrum t = .d1 then none else s.msq.search1
          search2 := if t.kind = .search ∧ tripDrum t = .d2 then none else s.msq.search2 } })

/-! ## The EMERGENCY action -/

/-- R117, R119, R133, R134, R145, R154, R155, R157, R162: an ultimate limit that opens, a slack rope, an encoder
fault line, the end of STOP_TIME_LIMIT and the deadline of a FADE watch, where the protection has no entry and
its action is EMERGENCY: a new entry, all seven lines withdrawn, the emergency block set, the winder TRIPPED and
the current trip gone. The model's choice: notes/assumptions/30 (ENCODER_FAULT before the loss of the
positions). -/
def Obligations.EmergencyConditionsWithdrawEveryLine : Prop :=
  ∀ (i : Instr) (p : Protection) (n : Nat) (s : State), s.powered = true → clutchCommandsAgree s →
    s.msq.winder ≠ .commission → s.msq.winder ≠ .tripped → entryOf s p = none →
    actionInForce s p = .emergency →
    ((∃ comp, i = .ultimateLimitChange comp true ∧ p = .ultimateLimit ∧ n = compNumber comp ∧
        isPresent s p n = false) ∨
      (∃ comp, i = .slackRopeChange comp true ∧ p = .slackRope ∧ n = compNumber comp ∧
        isPresent s p n = false) ∨
      (∃ d, i = .encoderFaultLineAssert d ∧ p = .encoderFault ∧ n = drumNumber d ∧
        (drumTrack s d).faultLine = false) ∨
      (∃ stage start, i = .stopTimeLimitExpiry ∧ p = .stopOverrun ∧ n = 0 ∧
        s.msq.winder = .stopping stage ∧ s.msq.stopStart = some start) ∨
      (∃ d speed deadline, i = .brakeStopDeadline d ∧ p = .brakeFade ∧ n = drumNumber d ∧
        watchOf s d = .fade speed deadline)) →
    ∃ u, exec i s = .next u ∧
      u.cpl.brk1 = false ∧ u.cpl.brk2 = false ∧ u.cpl.drv = false ∧ u.cpl.eng1 = false ∧
      u.cpl.dis1 = false ∧ u.cpl.eng2 = false ∧ u.cpl.dis2 = false ∧ u.cpl.block = true ∧
      u.cpl.changeover = none ∧ u.msq.winder = .tripped ∧ u.msq.current = none ∧
      u.msq.phaseTimer = none ∧ u.msq.stopStart = none ∧ u.msq.excessStart = none ∧
      u.msq.settle = none ∧ u.msq.ceiling = ⟨0, .none, none, none⟩ ∧
      (∀ id, s.msq.current = some id → ∀ t ∈ u.tqm.trips, t.id ≠ id) ∧
      (∃ e, entryOf u p = some e ∧ e.action = .emergency ∧ e.subjects = setOne n) ∧
      (p = .ultimateLimit ∨ p = .slackRope → isPresent u p n = true) ∧
      (∀ d, i = .encoderFaultLineAssert d → (drumTrack u d).faultLine = true ∧
        ∀ conv, convDrum conv = d → posOf u conv = .unknown) ∧
      u.hlc.places = s.hlc.places ∧ u.pfu = s.pfu ∧ u.cfs = s.cfs

/-! ## Invariants that every step keeps -/

/-- R176, R177, R180, R181: every step keeps the bounds of the receive buffer and of the notice queue, and a
transmitter that idles under supply has nothing it may send. -/
def Obligations.StepsKeepLinkBounded : Prop :=
  ∀ s t : State, linkBounded s → step s = .next t → linkBounded t

/-- R119 to R121, R124, R133, R134, R138: every step keeps the emergency block in agreement with the EMERGENCY
entries, BRK1, BRK2 and DRV withdrawn under it, the winder TRIPPED exactly under an EMERGENCY entry outside
COMMISSION, the creep clamp on exactly under a CREEP entry, and the clutch commands in agreement with the
changeover, in a state whose fault list and run are sound (StepsKeepFaultListSound and StepsKeepQueueAndRunSound
keep that). -/
def Obligations.StepsKeepEmergencyAndClutchLines : Prop :=
  ∀ s t : State, faultListSound s → runSound s →
    emergencyHeld s ∧ clutchCommandsAgree s ∧ trippedUnderEmergency s ∧ clampFollowsCreep s →
    step s = .next t →
    emergencyHeld t ∧ clutchCommandsAgree t ∧ trippedUnderEmergency t ∧ clampFollowsCreep t

/-- R161, R166, R169: every step keeps one entry for each protection, retry deadlines with HELD RETRY entries
only, and the first-out record exactly while the list holds an entry. -/
def Obligations.StepsKeepFaultListSound : Prop :=
  ∀ s t : State, faultListSound s → step s = .next t → faultListSound t

/-- R42, R48 to R52, R57, R61, R65, R108, R110, R112, R116, R135, R138: every step keeps the queue sound, no trip of
it of the COUNTERWEIGHT, the current trip in
agreement with the winder state, DRV and the permits within the run, and RUNNING and STOPPING to a clutch ENGAGED
for the trip's drum and FREE for the other. -/
def Obligations.StepsKeepQueueAndRunSound : Prop :=
  ∀ s t : State, queueSound s ∧ runSound s ∧ permitsFollowRun s ∧ clutchesFollowRun s →
    step s = .next t → queueSound t ∧ runSound t ∧ permitsFollowRun t ∧ clutchesFollowRun t

/-- R1, R18 to R20, R84, R191, R193, R197: every step keeps the working configuration in COMMISSION only, the station
table in agreement with the configuration in force, and the staged buffer sound. -/
def Obligations.StepsKeepConfigurationSound : Prop :=
  ∀ s t : State, configurationSound s ∧ stagedSound s → step s = .next t →
    configurationSound t ∧ stagedSound t

/-- R22, R25, R26, R37, R42: every step keeps the counts in range, eleven counts of history, the run of quiet
samples and the miss counts within their bounds, and no next-expected mark for an UNKNOWN conveyance. -/
def Obligations.StepsKeepDepthSound : Prop :=
  ∀ s t : State, depthSound s → step s = .next t → depthSound t
end

