-- ==== Sys2Proof/Laws/State.lean ====
section
/-! SUPPORT. One lemma for each field of State under each of its updates, and the same for a fold and for a
choice of states: what the frame lemmas of the other files of Laws are built from. -/

namespace Sys2Proof.Machine

/-! ### State.onHlc -/

@[simp] theorem State.onHlc_now (f : Hlc → Hlc) (s : State) : (s.onHlc f).now = s.now := rfl
@[simp] theorem State.onHlc_powered (f : Hlc → Hlc) (s : State) : (s.onHlc f).powered = s.powered := rfl
@[simp] theorem State.onHlc_hlc (f : Hlc → Hlc) (s : State) : (s.onHlc f).hlc = f s.hlc := rfl
@[simp] theorem State.onHlc_slc (f : Hlc → Hlc) (s : State) : (s.onHlc f).slc = s.slc := rfl
@[simp] theorem State.onHlc_pfu (f : Hlc → Hlc) (s : State) : (s.onHlc f).pfu = s.pfu := rfl
@[simp] theorem State.onHlc_dpt (f : Hlc → Hlc) (s : State) : (s.onHlc f).dpt = s.dpt := rfl
@[simp] theorem State.onHlc_tqm (f : Hlc → Hlc) (s : State) : (s.onHlc f).tqm = s.tqm := rfl
@[simp] theorem State.onHlc_msq (f : Hlc → Hlc) (s : State) : (s.onHlc f).msq = s.msq := rfl
@[simp] theorem State.onHlc_cpl (f : Hlc → Hlc) (s : State) : (s.onHlc f).cpl = s.cpl := rfl
@[simp] theorem State.onHlc_prt (f : Hlc → Hlc) (s : State) : (s.onHlc f).prt = s.prt := rfl
@[simp] theorem State.onHlc_cfs (f : Hlc → Hlc) (s : State) : (s.onHlc f).cfs = s.cfs := rfl
@[simp] theorem State.onHlc_pending (f : Hlc → Hlc) (s : State) : (s.onHlc f).pending = s.pending := rfl

/-! ### State.onSlc -/

@[simp] theorem State.onSlc_now (f : Slc → Slc) (s : State) : (s.onSlc f).now = s.now := rfl
@[simp] theorem State.onSlc_powered (f : Slc → Slc) (s : State) : (s.onSlc f).powered = s.powered := rfl
@[simp] theorem State.onSlc_hlc (f : Slc → Slc) (s : State) : (s.onSlc f).hlc = s.hlc := rfl
@[simp] theorem State.onSlc_slc (f : Slc → Slc) (s : State) : (s.onSlc f).slc = f s.slc := rfl
@[simp] theorem State.onSlc_pfu (f : Slc → Slc) (s : State) : (s.onSlc f).pfu = s.pfu := rfl
@[simp] theorem State.onSlc_dpt (f : Slc → Slc) (s : State) : (s.onSlc f).dpt = s.dpt := rfl
@[simp] theorem State.onSlc_tqm (f : Slc → Slc) (s : State) : (s.onSlc f).tqm = s.tqm := rfl
@[simp] theorem State.onSlc_msq (f : Slc → Slc) (s : State) : (s.onSlc f).msq = s.msq := rfl
@[simp] theorem State.onSlc_cpl (f : Slc → Slc) (s : State) : (s.onSlc f).cpl = s.cpl := rfl
@[simp] theorem State.onSlc_prt (f : Slc → Slc) (s : State) : (s.onSlc f).prt = s.prt := rfl
@[simp] theorem State.onSlc_cfs (f : Slc → Slc) (s : State) : (s.onSlc f).cfs = s.cfs := rfl
@[simp] theorem State.onSlc_pending (f : Slc → Slc) (s : State) : (s.onSlc f).pending = s.pending := rfl

/-! ### State.onPfu -/

@[simp] theorem State.onPfu_now (f : Pfu → Pfu) (s : State) : (s.onPfu f).now = s.now := rfl
@[simp] theorem State.onPfu_powered (f : Pfu → Pfu) (s : State) : (s.onPfu f).powered = s.powered := rfl
@[simp] theorem State.onPfu_hlc (f : Pfu → Pfu) (s : State) : (s.onPfu f).hlc = s.hlc := rfl
@[simp] theorem State.onPfu_slc (f : Pfu → Pfu) (s : State) : (s.onPfu f).slc = s.slc := rfl
@[simp] theorem State.onPfu_pfu (f : Pfu → Pfu) (s : State) : (s.onPfu f).pfu = f s.pfu := rfl
@[simp] theorem State.onPfu_dpt (f : Pfu → Pfu) (s : State) : (s.onPfu f).dpt = s.dpt := rfl
@[simp] theorem State.onPfu_tqm (f : Pfu → Pfu) (s : State) : (s.onPfu f).tqm = s.tqm := rfl
@[simp] theorem State.onPfu_msq (f : Pfu → Pfu) (s : State) : (s.onPfu f).msq = s.msq := rfl
@[simp] theorem State.onPfu_cpl (f : Pfu → Pfu) (s : State) : (s.onPfu f).cpl = s.cpl := rfl
@[simp] theorem State.onPfu_prt (f : Pfu → Pfu) (s : State) : (s.onPfu f).prt = s.prt := rfl
@[simp] theorem State.onPfu_cfs (f : Pfu → Pfu) (s : State) : (s.onPfu f).cfs = s.cfs := rfl
@[simp] theorem State.onPfu_pending (f : Pfu → Pfu) (s : State) : (s.onPfu f).pending = s.pending := rfl

/-! ### State.onDpt -/

@[simp] theorem State.onDpt_now (f : Dpt → Dpt) (s : State) : (s.onDpt f).now = s.now := rfl
@[simp] theorem State.onDpt_powered (f : Dpt → Dpt) (s : State) : (s.onDpt f).powered = s.powered := rfl
@[simp] theorem State.onDpt_hlc (f : Dpt → Dpt) (s : State) : (s.onDpt f).hlc = s.hlc := rfl
@[simp] theorem State.onDpt_slc (f : Dpt → Dpt) (s : State) : (s.onDpt f).slc = s.slc := rfl
@[simp] theorem State.onDpt_pfu (f : Dpt → Dpt) (s : State) : (s.onDpt f).pfu = s.pfu := rfl
@[simp] theorem State.onDpt_dpt (f : Dpt → Dpt) (s : State) : (s.onDpt f).dpt = f s.dpt := rfl
@[simp] theorem State.onDpt_tqm (f : Dpt → Dpt) (s : State) : (s.onDpt f).tqm = s.tqm := rfl
@[simp] theorem State.onDpt_msq (f : Dpt → Dpt) (s : State) : (s.onDpt f).msq = s.msq := rfl
@[simp] theorem State.onDpt_cpl (f : Dpt → Dpt) (s : State) : (s.onDpt f).cpl = s.cpl := rfl
@[simp] theorem State.onDpt_prt (f : Dpt → Dpt) (s : State) : (s.onDpt f).prt = s.prt := rfl
@[simp] theorem State.onDpt_cfs (f : Dpt → Dpt) (s : State) : (s.onDpt f).cfs = s.cfs := rfl
@[simp] theorem State.onDpt_pending (f : Dpt → Dpt) (s : State) : (s.onDpt f).pending = s.pending := rfl

/-! ### State.onTqm -/

@[simp] theorem State.onTqm_now (f : Tqm → Tqm) (s : State) : (s.onTqm f).now = s.now := rfl
@[simp] theorem State.onTqm_powered (f : Tqm → Tqm) (s : State) : (s.onTqm f).powered = s.powered := rfl
@[simp] theorem State.onTqm_hlc (f : Tqm → Tqm) (s : State) : (s.onTqm f).hlc = s.hlc := rfl
@[simp] theorem State.onTqm_slc (f : Tqm → Tqm) (s : State) : (s.onTqm f).slc = s.slc := rfl
@[simp] theorem State.onTqm_pfu (f : Tqm → Tqm) (s : State) : (s.onTqm f).pfu = s.pfu := rfl
@[simp] theorem State.onTqm_dpt (f : Tqm → Tqm) (s : State) : (s.onTqm f).dpt = s.dpt := rfl
@[simp] theorem State.onTqm_tqm (f : Tqm → Tqm) (s : State) : (s.onTqm f).tqm = f s.tqm := rfl
@[simp] theorem State.onTqm_msq (f : Tqm → Tqm) (s : State) : (s.onTqm f).msq = s.msq := rfl
@[simp] theorem State.onTqm_cpl (f : Tqm → Tqm) (s : State) : (s.onTqm f).cpl = s.cpl := rfl
@[simp] theorem State.onTqm_prt (f : Tqm → Tqm) (s : State) : (s.onTqm f).prt = s.prt := rfl
@[simp] theorem State.onTqm_cfs (f : Tqm → Tqm) (s : State) : (s.onTqm f).cfs = s.cfs := rfl
@[simp] theorem State.onTqm_pending (f : Tqm → Tqm) (s : State) : (s.onTqm f).pending = s.pending := rfl

/-! ### State.onMsq -/

@[simp] theorem State.onMsq_now (f : Msq → Msq) (s : State) : (s.onMsq f).now = s.now := rfl
@[simp] theorem State.onMsq_powered (f : Msq → Msq) (s : State) : (s.onMsq f).powered = s.powered := rfl
@[simp] theorem State.onMsq_hlc (f : Msq → Msq) (s : State) : (s.onMsq f).hlc = s.hlc := rfl
@[simp] theorem State.onMsq_slc (f : Msq → Msq) (s : State) : (s.onMsq f).slc = s.slc := rfl
@[simp] theorem State.onMsq_pfu (f : Msq → Msq) (s : State) : (s.onMsq f).pfu = s.pfu := rfl
@[simp] theorem State.onMsq_dpt (f : Msq → Msq) (s : State) : (s.onMsq f).dpt = s.dpt := rfl
@[simp] theorem State.onMsq_tqm (f : Msq → Msq) (s : State) : (s.onMsq f).tqm = s.tqm := rfl
@[simp] theorem State.onMsq_msq (f : Msq → Msq) (s : State) : (s.onMsq f).msq = f s.msq := rfl
@[simp] theorem State.onMsq_cpl (f : Msq → Msq) (s : State) : (s.onMsq f).cpl = s.cpl := rfl
@[simp] theorem State.onMsq_prt (f : Msq → Msq) (s : State) : (s.onMsq f).prt = s.prt := rfl
@[simp] theorem State.onMsq_cfs (f : Msq → Msq) (s : State) : (s.onMsq f).cfs = s.cfs := rfl
@[simp] theorem State.onMsq_pending (f : Msq → Msq) (s : State) : (s.onMsq f).pending = s.pending := rfl

/-! ### State.onCpl -/

@[simp] theorem State.onCpl_now (f : Cpl → Cpl) (s : State) : (s.onCpl f).now = s.now := rfl
@[simp] theorem State.onCpl_powered (f : Cpl → Cpl) (s : State) : (s.onCpl f).powered = s.powered := rfl
@[simp] theorem State.onCpl_hlc (f : Cpl → Cpl) (s : State) : (s.onCpl f).hlc = s.hlc := rfl
@[simp] theorem State.onCpl_slc (f : Cpl → Cpl) (s : State) : (s.onCpl f).slc = s.slc := rfl
@[simp] theorem State.onCpl_pfu (f : Cpl → Cpl) (s : State) : (s.onCpl f).pfu = s.pfu := rfl
@[simp] theorem State.onCpl_dpt (f : Cpl → Cpl) (s : State) : (s.onCpl f).dpt = s.dpt := rfl
@[simp] theorem State.onCpl_tqm (f : Cpl → Cpl) (s : State) : (s.onCpl f).tqm = s.tqm := rfl
@[simp] theorem State.onCpl_msq (f : Cpl → Cpl) (s : State) : (s.onCpl f).msq = s.msq := rfl
@[simp] theorem State.onCpl_cpl (f : Cpl → Cpl) (s : State) : (s.onCpl f).cpl = f s.cpl := rfl
@[simp] theorem State.onCpl_prt (f : Cpl → Cpl) (s : State) : (s.onCpl f).prt = s.prt := rfl
@[simp] theorem State.onCpl_cfs (f : Cpl → Cpl) (s : State) : (s.onCpl f).cfs = s.cfs := rfl
@[simp] theorem State.onCpl_pending (f : Cpl → Cpl) (s : State) : (s.onCpl f).pending = s.pending := rfl

/-! ### State.onPrt -/

@[simp] theorem State.onPrt_now (f : Prt → Prt) (s : State) : (s.onPrt f).now = s.now := rfl
@[simp] theorem State.onPrt_powered (f : Prt → Prt) (s : State) : (s.onPrt f).powered = s.powered := rfl
@[simp] theorem State.onPrt_hlc (f : Prt → Prt) (s : State) : (s.onPrt f).hlc = s.hlc := rfl
@[simp] theorem State.onPrt_slc (f : Prt → Prt) (s : State) : (s.onPrt f).slc = s.slc := rfl
@[simp] theorem State.onPrt_pfu (f : Prt → Prt) (s : State) : (s.onPrt f).pfu = s.pfu := rfl
@[simp] theorem State.onPrt_dpt (f : Prt → Prt) (s : State) : (s.onPrt f).dpt = s.dpt := rfl
@[simp] theorem State.onPrt_tqm (f : Prt → Prt) (s : State) : (s.onPrt f).tqm = s.tqm := rfl
@[simp] theorem State.onPrt_msq (f : Prt → Prt) (s : State) : (s.onPrt f).msq = s.msq := rfl
@[simp] theorem State.onPrt_cpl (f : Prt → Prt) (s : State) : (s.onPrt f).cpl = s.cpl := rfl
@[simp] theorem State.onPrt_prt (f : Prt → Prt) (s : State) : (s.onPrt f).prt = f s.prt := rfl
@[simp] theorem State.onPrt_cfs (f : Prt → Prt) (s : State) : (s.onPrt f).cfs = s.cfs := rfl
@[simp] theorem State.onPrt_pending (f : Prt → Prt) (s : State) : (s.onPrt f).pending = s.pending := rfl

/-! ### State.onCfs -/

@[simp] theorem State.onCfs_now (f : Cfs → Cfs) (s : State) : (s.onCfs f).now = s.now := rfl
@[simp] theorem State.onCfs_powered (f : Cfs → Cfs) (s : State) : (s.onCfs f).powered = s.powered := rfl
@[simp] theorem State.onCfs_hlc (f : Cfs → Cfs) (s : State) : (s.onCfs f).hlc = s.hlc := rfl
@[simp] theorem State.onCfs_slc (f : Cfs → Cfs) (s : State) : (s.onCfs f).slc = s.slc := rfl
@[simp] theorem State.onCfs_pfu (f : Cfs → Cfs) (s : State) : (s.onCfs f).pfu = s.pfu := rfl
@[simp] theorem State.onCfs_dpt (f : Cfs → Cfs) (s : State) : (s.onCfs f).dpt = s.dpt := rfl
@[simp] theorem State.onCfs_tqm (f : Cfs → Cfs) (s : State) : (s.onCfs f).tqm = s.tqm := rfl
@[simp] theorem State.onCfs_msq (f : Cfs → Cfs) (s : State) : (s.onCfs f).msq = s.msq := rfl
@[simp] theorem State.onCfs_cpl (f : Cfs → Cfs) (s : State) : (s.onCfs f).cpl = s.cpl := rfl
@[simp] theorem State.onCfs_prt (f : Cfs → Cfs) (s : State) : (s.onCfs f).prt = s.prt := rfl
@[simp] theorem State.onCfs_cfs (f : Cfs → Cfs) (s : State) : (s.onCfs f).cfs = f s.cfs := rfl
@[simp] theorem State.onCfs_pending (f : Cfs → Cfs) (s : State) : (s.onCfs f).pending = s.pending := rfl

/-! ### State.at -/

@[simp] theorem State.at_now (t : Nat) (s : State) : (s.at t).now = t := rfl
@[simp] theorem State.at_powered (t : Nat) (s : State) : (s.at t).powered = s.powered := rfl
@[simp] theorem State.at_hlc (t : Nat) (s : State) : (s.at t).hlc = s.hlc := rfl
@[simp] theorem State.at_slc (t : Nat) (s : State) : (s.at t).slc = s.slc := rfl
@[simp] theorem State.at_pfu (t : Nat) (s : State) : (s.at t).pfu = s.pfu := rfl
@[simp] theorem State.at_dpt (t : Nat) (s : State) : (s.at t).dpt = s.dpt := rfl
@[simp] theorem State.at_tqm (t : Nat) (s : State) : (s.at t).tqm = s.tqm := rfl
@[simp] theorem State.at_msq (t : Nat) (s : State) : (s.at t).msq = s.msq := rfl
@[simp] theorem State.at_cpl (t : Nat) (s : State) : (s.at t).cpl = s.cpl := rfl
@[simp] theorem State.at_prt (t : Nat) (s : State) : (s.at t).prt = s.prt := rfl
@[simp] theorem State.at_cfs (t : Nat) (s : State) : (s.at t).cfs = s.cfs := rfl
@[simp] theorem State.at_pending (t : Nat) (s : State) : (s.at t).pending = s.pending := rfl

/-! ### State.withPending -/

@[simp] theorem State.withPending_now (q : List Instr) (s : State) : (s.withPending q).now = s.now := rfl
@[simp] theorem State.withPending_powered (q : List Instr) (s : State) : (s.withPending q).powered = s.powered := rfl
@[simp] theorem State.withPending_hlc (q : List Instr) (s : State) : (s.withPending q).hlc = s.hlc := rfl
@[simp] theorem State.withPending_slc (q : List Instr) (s : State) : (s.withPending q).slc = s.slc := rfl
@[simp] theorem State.withPending_pfu (q : List Instr) (s : State) : (s.withPending q).pfu = s.pfu := rfl
@[simp] theorem State.withPending_dpt (q : List Instr) (s : State) : (s.withPending q).dpt = s.dpt := rfl
@[simp] theorem State.withPending_tqm (q : List Instr) (s : State) : (s.withPending q).tqm = s.tqm := rfl
@[simp] theorem State.withPending_msq (q : List Instr) (s : State) : (s.withPending q).msq = s.msq := rfl
@[simp] theorem State.withPending_cpl (q : List Instr) (s : State) : (s.withPending q).cpl = s.cpl := rfl
@[simp] theorem State.withPending_prt (q : List Instr) (s : State) : (s.withPending q).prt = s.prt := rfl
@[simp] theorem State.withPending_cfs (q : List Instr) (s : State) : (s.withPending q).cfs = s.cfs := rfl
@[simp] theorem State.withPending_pending (q : List Instr) (s : State) : (s.withPending q).pending = q := rfl

/-! ### Folds and choices -/

/-- A fold of steps that keep a part of the state keeps it. -/
theorem foldl_same {α β σ : Type} (part : σ → β) (f : σ → α → σ) (h : ∀ s a, part (f s a) = part s)
    (l : List α) (s : σ) : part (l.foldl f s) = part s := by
  induction l generalizing s with
  | nil => rfl
  | cons a l ih => rw [List.foldl_cons, ih, h]

/-- A fold of steps that keep a property keeps it. -/
theorem foldl_keeps {α σ : Type} (P : σ → Prop) (f : σ → α → σ) (h : ∀ s a, P s → P (f s a))
    (l : List α) (s : σ) (hs : P s) : P (l.foldl f s) := by
  induction l generalizing s with
  | nil => exact hs
  | cons a l ih => exact ih (f s a) (h s a hs)

@[simp] theorem foldl_now {α : Type} (f : State → α → State) (h : ∀ s a, (f s a).now = s.now)
    (l : List α) (s : State) : (l.foldl f s).now = s.now := foldl_same State.now f h l s
@[simp] theorem foldl_powered {α : Type} (f : State → α → State) (h : ∀ s a, (f s a).powered = s.powered)
    (l : List α) (s : State) : (l.foldl f s).powered = s.powered := foldl_same State.powered f h l s
@[simp] theorem foldl_hlc {α : Type} (f : State → α → State) (h : ∀ s a, (f s a).hlc = s.hlc)
    (l : List α) (s : State) : (l.foldl f s).hlc = s.hlc := foldl_same State.hlc f h l s
@[simp] theorem foldl_slc {α : Type} (f : State → α → State) (h : ∀ s a, (f s a).slc = s.slc)
    (l : List α) (s : State) : (l.foldl f s).slc = s.slc := foldl_same State.slc f h l s
@[simp] theorem foldl_pfu {α : Type} (f : State → α → State) (h : ∀ s a, (f s a).pfu = s.pfu)
    (l : List α) (s : State) : (l.foldl f s).pfu = s.pfu := foldl_same State.pfu f h l s
@[simp] theorem foldl_dpt {α : Type} (f : State → α → State) (h : ∀ s a, (f s a).dpt = s.dpt)
    (l : List α) (s : State) : (l.foldl f s).dpt = s.dpt := foldl_same State.dpt f h l s
@[simp] theorem foldl_tqm {α : Type} (f : State → α → State) (h : ∀ s a, (f s a).tqm = s.tqm)
    (l : List α) (s : State) : (l.foldl f s).tqm = s.tqm := foldl_same State.tqm f h l s
@[simp] theorem foldl_msq {α : Type} (f : State → α → State) (h : ∀ s a, (f s a).msq = s.msq)
    (l : List α) (s : State) : (l.foldl f s).msq = s.msq := foldl_same State.msq f h l s
@[simp] theorem foldl_cpl {α : Type} (f : State → α → State) (h : ∀ s a, (f s a).cpl = s.cpl)
    (l : List α) (s : State) : (l.foldl f s).cpl = s.cpl := foldl_same State.cpl f h l s
@[simp] theorem foldl_prt {α : Type} (f : State → α → State) (h : ∀ s a, (f s a).prt = s.prt)
    (l : List α) (s : State) : (l.foldl f s).prt = s.prt := foldl_same State.prt f h l s
@[simp] theorem foldl_cfs {α : Type} (f : State → α → State) (h : ∀ s a, (f s a).cfs = s.cfs)
    (l : List α) (s : State) : (l.foldl f s).cfs = s.cfs := foldl_same State.cfs f h l s
@[simp] theorem foldl_pending {α : Type} (f : State → α → State) (h : ∀ s a, (f s a).pending = s.pending)
    (l : List α) (s : State) : (l.foldl f s).pending = s.pending := foldl_same State.pending f h l s

@[simp] theorem ite_now (c : Prop) [Decidable c] (s t : State) :
    (if c then s else t).now = if c then s.now else t.now := by split <;> rfl
@[simp] theorem ite_powered (c : Prop) [Decidable c] (s t : State) :
    (if c then s else t).powered = if c then s.powered else t.powered := by split <;> rfl
@[simp] theorem ite_hlc (c : Prop) [Decidable c] (s t : State) :
    (if c then s else t).hlc = if c then s.hlc else t.hlc := by split <;> rfl
@[simp] theorem ite_slc (c : Prop) [Decidable c] (s t : State) :
    (if c then s else t).slc = if c then s.slc else t.slc := by split <;> rfl
@[simp] theorem ite_pfu (c : Prop) [Decidable c] (s t : State) :
    (if c then s else t).pfu = if c then s.pfu else t.pfu := by split <;> rfl
@[simp] theorem ite_dpt (c : Prop) [Decidable c] (s t : State) :
    (if c then s else t).dpt = if c then s.dpt else t.dpt := by split <;> rfl
@[simp] theorem ite_tqm (c : Prop) [Decidable c] (s t : State) :
    (if c then s else t).tqm = if c then s.tqm else t.tqm := by split <;> rfl
@[simp] theorem ite_msq (c : Prop) [Decidable c] (s t : State) :
    (if c then s else t).msq = if c then s.msq else t.msq := by split <;> rfl
@[simp] theorem ite_cpl (c : Prop) [Decidable c] (s t : State) :
    (if c then s else t).cpl = if c then s.cpl else t.cpl := by split <;> rfl
@[simp] theorem ite_prt (c : Prop) [Decidable c] (s t : State) :
    (if c then s else t).prt = if c then s.prt else t.prt := by split <;> rfl
@[simp] theorem ite_cfs (c : Prop) [Decidable c] (s t : State) :
    (if c then s else t).cfs = if c then s.cfs else t.cfs := by split <;> rfl
@[simp] theorem ite_pending (c : Prop) [Decidable c] (s t : State) :
    (if c then s else t).pending = if c then s.pending else t.pending := by split <;> rfl

end Sys2Proof.Machine
end

