-- ==== Sys2Proof/Laws/Tables.lean ====
section
/-! SUPPORT. What the operations on number-keyed tables, on sets of subjects and on fields do. -/

namespace Sys2Proof.Machine

/-! ## Tables -/

theorem tableGet_tablePut_self {α : Type} (k : Nat) (a : α) (t : Table α) :
    tableGet k (tablePut k a t) = some a := by
  induction t with
  | nil => simp [tablePut, tableGet]
  | cons p t ih =>
    obtain ⟨j, b⟩ := p
    simp only [tablePut]
    split
    · simp [tableGet]
    · split
      · simp [tableGet]
      · rename_i h
        simp [tableGet, Ne.symm h, ih]

theorem tableGet_tablePut_other {α : Type} (k m : Nat) (a : α) (t : Table α) (h : m ≠ k) :
    tableGet m (tablePut k a t) = tableGet m t := by
  induction t with
  | nil => simp [tablePut, tableGet, Ne.symm h]
  | cons p t ih =>
    obtain ⟨j, b⟩ := p
    simp only [tablePut]
    split
    · simp [tableGet, Ne.symm h]
    · split
      · rename_i h'
        subst h'
        simp [tableGet, Ne.symm h]
      · simp [tableGet, ih]

theorem tableGet_tableDel_self {α : Type} (k : Nat) (t : Table α) : tableGet k (tableDel k t) = none := by
  induction t with
  | nil => rfl
  | cons p t ih =>
    obtain ⟨j, b⟩ := p
    by_cases h : j = k
    · simpa [tableDel, h] using ih
    · simp only [tableDel, List.filter_cons, bne_iff_ne, ne_eq, h, not_false_eq_true, if_true, tableGet,
        if_false]
      exact ih

theorem tableGet_tableDel_other {α : Type} (k m : Nat) (t : Table α) (h : m ≠ k) :
    tableGet m (tableDel k t) = tableGet m t := by
  induction t with
  | nil => rfl
  | cons p t ih =>
    obtain ⟨j, b⟩ := p
    by_cases hj : j = k
    · subst hj
      have : tableDel j ((j, b) :: t) = tableDel j t := by simp [tableDel]
      rw [this, ih]
      simp [tableGet, Ne.symm h]
    · have : tableDel k ((j, b) :: t) = (j, b) :: tableDel k t := by simp [tableDel, hj]
      rw [this]
      simp only [tableGet, ih]

/-- Changing an item leaves the keys as they stand. -/
@[simp] theorem tableUpdate_keys {α : Type} (k : Nat) (f : α → α) (t : Table α) :
    (tableUpdate k f t).map (fun p => p.1) = t.map (fun p => p.1) := by
  simp only [tableUpdate, List.map_map]
  congr 1
  funext p
  by_cases h : p.1 = k <;> simp [h]

theorem tableGet_tableUpdate_self {α : Type} (k : Nat) (f : α → α) (t : Table α) :
    tableGet k (tableUpdate k f t) = (tableGet k t).map f := by
  induction t with
  | nil => rfl
  | cons p t ih =>
    obtain ⟨j, b⟩ := p
    by_cases h : j = k
    · simp [tableUpdate, tableGet, h]
    · have : tableUpdate k f ((j, b) :: t) = (j, b) :: tableUpdate k f t := by simp [tableUpdate, h]
      rw [this]
      simp [tableGet, h, ih]

theorem tableGet_tableUpdate_other {α : Type} (k m : Nat) (f : α → α) (t : Table α) (h : m ≠ k) :
    tableGet m (tableUpdate k f t) = tableGet m t := by
  induction t with
  | nil => rfl
  | cons p t ih =>
    obtain ⟨j, b⟩ := p
    by_cases hj : j = k
    · subst hj
      have : tableUpdate j f ((j, b) :: t) = (j, f b) :: tableUpdate j f t := by simp [tableUpdate]
      rw [this]
      simp [tableGet, Ne.symm h, ih]
    · have : tableUpdate k f ((j, b) :: t) = (j, b) :: tableUpdate k f t := by simp [tableUpdate, hj]
      rw [this]
      simp [tableGet, ih]

/-! ## The order of the items -/

/-- A table is sorted exactly if the keys of its tail lie above its first key and the tail is sorted. -/
theorem tableSorted_cons {α : Type} (p : Nat × α) (t : Table α) :
    tableSorted (p :: t) = true ↔ (∀ q ∈ t, p.1 < q.1) ∧ tableSorted t = true := by
  induction t generalizing p with
  | nil => simp [tableSorted]
  | cons q rest ih =>
    simp only [tableSorted, Bool.and_eq_true, decide_eq_true_eq, List.mem_cons, forall_eq_or_imp]
    constructor
    · rintro ⟨h, hs⟩
      exact ⟨⟨h, fun r hr => Nat.lt_trans h (((ih q).mp hs).1 r hr)⟩, hs⟩
    · rintro ⟨⟨h, _⟩, hs⟩
      exact ⟨h, hs⟩

/-- A table stays sorted when items are taken out. -/
theorem tableSorted_filter {α : Type} (f : Nat × α → Bool) (t : Table α) (h : tableSorted t = true) :
    tableSorted (t.filter f) = true := by
  induction t with
  | nil => rfl
  | cons p rest ih =>
    obtain ⟨hp, hr⟩ := (tableSorted_cons p rest).mp h
    by_cases hf : f p = true
    · rw [List.filter_cons_of_pos hf]
      exact (tableSorted_cons _ _).mpr ⟨fun q hq => hp q (List.mem_filter.mp hq).1, ih hr⟩
    · rw [List.filter_cons_of_neg hf]
      exact ih hr

theorem tableSorted_tableDel {α : Type} (k : Nat) (t : Table α) (h : tableSorted t = true) :
    tableSorted (tableDel k t) = true := tableSorted_filter _ t h

/-- The keys of a table with an item written are the old keys and the key written. -/
theorem mem_tablePut {α : Type} (k : Nat) (a : α) (t : Table α) (q : Nat × α)
    (h : q ∈ tablePut k a t) : q.1 = k ∨ q ∈ t := by
  induction t with
  | nil => simp [tablePut] at h; exact .inl (by rw [h])
  | cons p rest ih =>
    obtain ⟨j, b⟩ := p
    simp only [tablePut] at h
    split at h
    · rcases List.mem_cons.mp h with h | h
      · exact .inl (by rw [h])
      · exact .inr h
    · split at h
      · rcases List.mem_cons.mp h with h | h
        · exact .inl (by rw [h])
        · exact .inr (List.mem_cons_of_mem _ h)
      · rcases List.mem_cons.mp h with h | h
        · exact .inr (by rw [h]; exact List.mem_cons_self)
        · exact (ih h).imp id (List.mem_cons_of_mem _)

theorem tableSorted_tablePut {α : Type} (k : Nat) (a : α) (t : Table α) (h : tableSorted t = true) :
    tableSorted (tablePut k a t) = true := by
  induction t with
  | nil => rfl
  | cons p rest ih =>
    obtain ⟨j, b⟩ := p
    obtain ⟨hp, hr⟩ := (tableSorted_cons _ rest).mp h
    simp only [tablePut]
    split
    · rename_i hk
      refine (tableSorted_cons _ _).mpr ⟨fun q hq => ?_, h⟩
      rcases List.mem_cons.mp hq with hq | hq
      · rw [hq]; exact hk
      · exact Nat.lt_trans hk (hp q hq)
    · split
      · rename_i hk
        exact (tableSorted_cons _ _).mpr ⟨fun q hq => by subst hk; exact hp q hq, hr⟩
      · refine (tableSorted_cons _ _).mpr ⟨fun q hq => ?_, ih hr⟩
        rcases mem_tablePut k a rest q hq with hq | hq
        · rw [hq]; show j < k; omega
        · exact hp q hq

theorem tableSorted_tableUpdate {α : Type} (k : Nat) (f : α → α) (t : Table α) (h : tableSorted t = true) :
    tableSorted (tableUpdate k f t) = true := by
  induction t with
  | nil => rfl
  | cons p rest ih =>
    obtain ⟨hp, hr⟩ := (tableSorted_cons p rest).mp h
    refine (tableSorted_cons _ _).mpr ⟨fun q hq => ?_, ih hr⟩
    obtain ⟨r, hr', rfl⟩ := List.mem_map.mp hq
    have h1 : ∀ x : Nat × α, (if x.1 = k then (x.1, f x.2) else x).1 = x.1 := fun x => by split <;> rfl
    rw [h1, h1]
    exact hp r hr'

/-! ## Parameters -/

/-- A number beyond 38 is no parameter's. -/
theorem paramGet_beyond (p : Params) (m : Nat) (h : 38 < m) : paramGet p m = 0 := by
  obtain ⟨k, rfl⟩ : ∃ k, m = k + 39 := ⟨m - 39, by omega⟩
  rfl

/-- R195: a parameter written reads back, and every other parameter stays. -/
theorem paramGet_paramSet (p : Params) (n m : Nat) (v : Int) (hn : 1 ≤ n) (hn' : n ≤ 38) :
    paramGet (paramSet p n v) m = if m = n then v else paramGet p m := by
  by_cases h : 38 < m
  · rw [paramGet_beyond _ m h, paramGet_beyond _ m h, if_neg (by omega)]
  · have hm : m ≤ 38 := by omega
    interval_cases n <;> interval_cases m <;> rfl

/-! ## Fields (R198) -/

theorem ofNat8_toNat (n : Nat) (h : n < 256) : (BitVec.ofNat 8 n).toNat = n := by
  simp [BitVec.toNat_ofNat, Nat.mod_eq_of_lt h]

/-- R198: a value that 32 bits hold is written in two's complement. -/
theorem fieldWord_fits (x : Int) (h1 : -2147483648 ≤ x) (h2 : x ≤ 2147483647) :
    fieldWord x = BitVec.ofInt 32 x := by
  simp [fieldWord, h1, h2]

theorem fieldWord_toNat (x : Int) (h1 : -2147483648 ≤ x) (h2 : x ≤ 2147483647) :
    (fieldWord x).toNat = (x % 4294967296).toNat := by
  simp [fieldWord_fits x h1 h2, BitVec.toNat_ofInt]

/-- R198: a four-byte signed field takes four bytes, whatever its value. -/
@[simp] theorem put32_length (x : Int) : (put32 x).length = 4 := rfl

/-- R198: a four-byte signed field reads back as it was written. -/
theorem s32At_put32 (b rest : List Byte) (x : Int) (h1 : -2147483648 ≤ x) (h2 : x ≤ 2147483647) :
    s32At (b ++ put32 x ++ rest) b.length = x := by
  have get : ∀ j, byteAt (b ++ put32 x ++ rest) (b.length + j) = byteAt (put32 x ++ rest) j := by
    intro j
    simp [byteAt, List.getD_eq_getElem?_getD, List.append_assoc, List.getElem?_append_right]
  have hn : ((x % 4294967296).toNat : Int) = x % 4294967296 := Int.toNat_of_nonneg (by omega)
  have hlt : (x % 4294967296).toNat < 4294967296 := by omega
  have u : u32At (b ++ put32 x ++ rest) b.length = (x % 4294967296).toNat := by
    have e0 := get 0
    have e1 := get 1
    have e2 := get 2
    have e3 := get 3
    simp only [Nat.add_zero] at e0
    simp only [u32At, u16At, u8At, Nat.add_assoc, e0, e1, e2]
    have e3' : b.length + (2 + 1) = b.length + 3 := rfl
    rw [e3', e3]
    simp only [byteAt, put32, fieldWord_toNat x h1 h2, List.cons_append, List.nil_append, List.getD_cons_zero, List.getD_cons_succ,
      BitVec.toNat_ofNat]
    omega
  simp only [s32At, u]
  split <;> omega

/-- R198: a two-byte unsigned field reads back as it was written. -/
theorem u16At_put16 (b rest : List Byte) (n : Nat) (h : n < 65536) :
    u16At (b ++ put16 n ++ rest) b.length = n := by
  have get : ∀ j, byteAt (b ++ put16 n ++ rest) (b.length + j) = byteAt (put16 n ++ rest) j := by
    intro j
    simp [byteAt, List.getD_eq_getElem?_getD, List.append_assoc, List.getElem?_append_right]
  have e0 := get 0
  have e1 := get 1
  simp only [Nat.add_zero] at e0
  simp only [u16At, u8At, e0, e1]
  simp only [byteAt, put16, List.cons_append, List.nil_append, List.getD_cons_zero, List.getD_cons_succ,
    BitVec.toNat_ofNat]
  omega

/-- R198: a one-byte field reads back as it was written. -/
theorem u8At_put8 (b rest : List Byte) (n : Nat) (h : n < 256) : u8At (b ++ put8 n ++ rest) b.length = n := by
  simp [u8At, byteAt, put8, List.getD_eq_getElem?_getD, List.append_assoc, BitVec.toNat_ofNat,
    Nat.mod_eq_of_lt h]

end Sys2Proof.Machine
end

