-- ==== Sys2Proof/Laws/Link.lean ====
section
/-! SUPPORT. What the operations of the Host Link Controller do: the transmitter's choice, a notice handed
over, a reply formed, a frame taken, and a request met by an open link (R176 to R181). -/

namespace Sys2Proof.Machine

/-! ## Outcomes -/

@[simp] theorem whenPowered_on (f : State → State) (s : State) (h : s.powered = true) :
    whenPowered f s = .next (f s) := by simp [whenPowered, h]

@[simp] theorem whenPowered_off (f : State → State) (s : State) (h : s.powered = false) :
    whenPowered f s = .next s := by simp [whenPowered, h]

theorem whenPowered_next (f : State → State) (s : State) :
    whenPowered f s = .next (if s.powered then f s else s) := by simp only [whenPowered]; split <;> rfl

/-! ## The transmitter -/

@[simp] theorem chooseNext_places (h : Hlc) : (chooseNext h).places = h.places := by
  simp only [chooseNext]; repeat' split
  all_goals rfl
@[simp] theorem chooseNext_hunter (h : Hlc) : (chooseNext h).hunter = h.hunter := by
  simp only [chooseNext]; repeat' split
  all_goals rfl
@[simp] theorem chooseNext_lastByte (h : Hlc) : (chooseNext h).lastByte = h.lastByte := by
  simp only [chooseNext]; repeat' split
  all_goals rfl
@[simp] theorem chooseNext_drain (h : Hlc) : (chooseNext h).drain = h.drain := by
  simp only [chooseNext]; repeat' split
  all_goals rfl
@[simp] theorem wakeTx_places (h : Hlc) : (wakeTx h).places = h.places := by
  simp only [wakeTx]; split <;> simp
@[simp] theorem wakeTx_hunter (h : Hlc) : (wakeTx h).hunter = h.hunter := by
  simp only [wakeTx]; split <;> simp
@[simp] theorem wakeTx_lastByte (h : Hlc) : (wakeTx h).lastByte = h.lastByte := by
  simp only [wakeTx]; split <;> simp
@[simp] theorem wakeTx_drain (h : Hlc) : (wakeTx h).drain = h.drain := by
  simp only [wakeTx]; split <;> simp
@[simp] theorem queueNotice_places (n : Notice) (h : Hlc) : (queueNotice n h).places = h.places := by
  simp only [queueNotice]; split <;> rfl
@[simp] theorem queueNotice_hunter (n : Notice) (h : Hlc) : (queueNotice n h).hunter = h.hunter := by
  simp only [queueNotice]; split <;> rfl
@[simp] theorem queueNotice_lastByte (n : Notice) (h : Hlc) : (queueNotice n h).lastByte = h.lastByte := by
  simp only [queueNotice]; split <;> rfl
@[simp] theorem queueNotice_drain (n : Notice) (h : Hlc) : (queueNotice n h).drain = h.drain := by
  simp only [queueNotice]; split <;> rfl
@[simp] theorem queueNotice_tx (n : Notice) (h : Hlc) : (queueNotice n h).tx = h.tx := by
  simp only [queueNotice]; split <;> rfl

/-- A transmitter that is sending is left to its frame. -/
theorem wakeTx_busy (h : Hlc) (b : h.tx ≠ .idle) : wakeTx h = h := by
  unfold wakeTx
  split
  · exact absurd (by assumption) b
  · rfl
  · rfl

/-- R181: the queue holds at most 32 notices after a notice is handed over, if it did before. -/
theorem queueNotice_bounded (n : Notice) (h : Hlc) (b : h.notices.length ≤ 32) :
    (queueNotice n h).notices.length ≤ 32 := by
  simp only [queueNotice]
  split
  · simp; omega
  · simpa using b

theorem chooseNext_bounded (h : Hlc) (b : h.notices.length ≤ 32) :
    (chooseNext h).notices.length ≤ 32 := by
  simp only [chooseNext]
  repeat' split
  all_goals simp_all
  omega

/-! ## Notices -/

/-- A notice handed over changes nothing but the Host Link Controller. -/
theorem notify_eq (n : Notice) (s : State) : notify n s = { s with hlc := noted [n] s.hlc } := rfl

@[simp] theorem notify_same (n : Notice) (s : State) :
    (notify n s).now = s.now ∧ (notify n s).powered = s.powered ∧ (notify n s).slc = s.slc ∧
    (notify n s).pfu = s.pfu ∧ (notify n s).dpt = s.dpt ∧ (notify n s).tqm = s.tqm ∧
    (notify n s).msq = s.msq ∧ (notify n s).cpl = s.cpl ∧ (notify n s).prt = s.prt ∧
    (notify n s).cfs = s.cfs ∧ (notify n s).pending = s.pending := by simp [notify]

@[simp] theorem notify_link (n : Notice) (s : State) :
    (notify n s).hlc.places = s.hlc.places ∧ (notify n s).hlc.hunter = s.hlc.hunter ∧
    (notify n s).hlc.lastByte = s.hlc.lastByte ∧ (notify n s).hlc.drain = s.hlc.drain := by
  simp [notify]

/-- While the transmitter is sending, a notice only joins the queue. -/
theorem notify_busy (n : Notice) (s : State) (b : s.hlc.tx ≠ .idle) :
    notify n s = { s with hlc := queueNotice n s.hlc } := by
  have : wakeTx (queueNotice n s.hlc) = queueNotice n s.hlc := wakeTx_busy _ (by simpa using b)
  simp only [notify, State.onHlc, this]

theorem queueAll_tx (ns : List Notice) (h : Hlc) : (queueAll ns h).tx = h.tx := by
  induction ns generalizing h with
  | nil => rfl
  | cons n ns ih => simp only [queueAll, List.foldl_cons] at ih ⊢; rw [ih]; simp

/-- While the transmitter is sending, notices only join the queue, in order. -/
theorem noted_busy (ns : List Notice) (h : Hlc) (b : h.tx ≠ .idle) : noted ns h = queueAll ns h := by
  induction ns generalizing h with
  | nil => rfl
  | cons n ns ih =>
    have e : wakeTx (queueNotice n h) = queueNotice n h := wakeTx_busy _ (by simpa using b)
    simp only [noted, queueAll, List.foldl_cons, e] at ih ⊢
    exact ih _ (by simpa using b)

/-- Notices in order are one claim's or one rule's: they change nothing but the Host Link Controller. -/
theorem notifyAll_eq (ns : List Notice) (s : State) :
    notifyAll ns s = { s with hlc := noted ns s.hlc } := by
  induction ns generalizing s with
  | nil => rfl
  | cons n ns ih =>
    simp only [notifyAll, List.foldl_cons] at ih ⊢
    rw [ih]
    rfl

@[simp] theorem notifyAll_same (ns : List Notice) (s : State) :
    (notifyAll ns s).now = s.now ∧ (notifyAll ns s).powered = s.powered ∧
    (notifyAll ns s).slc = s.slc ∧ (notifyAll ns s).pfu = s.pfu ∧ (notifyAll ns s).dpt = s.dpt ∧
    (notifyAll ns s).tqm = s.tqm ∧ (notifyAll ns s).msq = s.msq ∧ (notifyAll ns s).cpl = s.cpl ∧
    (notifyAll ns s).prt = s.prt ∧ (notifyAll ns s).cfs = s.cfs ∧
    (notifyAll ns s).pending = s.pending := by simp [notifyAll_eq]

theorem noted_link (ns : List Notice) (h : Hlc) :
    (noted ns h).places = h.places ∧ (noted ns h).hunter = h.hunter ∧
    (noted ns h).lastByte = h.lastByte ∧ (noted ns h).drain = h.drain := by
  induction ns generalizing h with
  | nil => simp [noted]
  | cons n ns ih =>
    have := ih (wakeTx (queueNotice n h))
    simpa [noted] using this

@[simp] theorem notifyAll_link (ns : List Notice) (s : State) :
    (notifyAll ns s).hlc.places = s.hlc.places ∧ (notifyAll ns s).hlc.hunter = s.hlc.hunter ∧
    (notifyAll ns s).hlc.lastByte = s.hlc.lastByte ∧ (notifyAll ns s).hlc.drain = s.hlc.drain := by
  simp [notifyAll_eq, noted_link]

theorem noted_append (a b : List Notice) (h : Hlc) : noted (a ++ b) h = noted b (noted a h) := by
  simp [noted, List.foldl_append]

theorem queueAll_append (a b : List Notice) (h : Hlc) :
    queueAll (a ++ b) h = queueAll b (queueAll a h) := by simp [queueAll, List.foldl_append]

/-! ## Replies -/

/-- The Host Link Controller after a reply never has an idle transmitter. -/
@[simp] theorem answered_busy (s : State) (kind tag : Byte) (body : List Byte) :
    (answered s kind tag body).tx ≠ .idle := by
  simp only [answered]; split <;> simp

@[simp] theorem answered_drain (s : State) (kind tag : Byte) (body : List Byte) :
    (answered s kind tag body).drain = s.hlc.drain := rfl

theorem linkOpen_iff (s : State) :
    linkOpen s = true ↔ s.powered = true ∧ s.hlc.drain = .off ∧ framePlaces s.hlc < 4 := by
  simp [linkOpen, and_assoc]

/-- R176, R178: a frame that finds the link open is answered, and then its owner's act is made. -/
theorem takeFrame_open (kind tag : Byte) (body : List Byte) (owner : Answer) (s : State)
    (h : linkOpen s = true) :
    takeFrame kind tag body owner s = (checkedAnswer kind body owner).act
      { s with hlc := answered s kind tag (checkedAnswer kind body owner).body } := by
  obtain ⟨_, hd, hf⟩ := (linkOpen_iff s).1 h
  have fp : ∀ h : Hlc, h.places = s.hlc.places → framePlaces h < 4 := by
    intro h e; simpa [framePlaces, e] using hf
  simp only [takeFrame, hd, State.onHlc]
  split
  · congr 1
    simp only [formReply, State.onHlc, answered, wakeTx, chooseNext, restartSent]
    cases htx : s.hlc.tx <;> simp [hd]
  · rename_i hf'
    exact absurd (fp _ rfl) hf'

/-- R178: what a taken request of a known kind and an allowed length does. -/
theorem hostRequest_open (kind tag : Byte) (body : List Byte) (owner : List Byte → State → Answer)
    (s : State) (lens : List Nat) (h : linkOpen s = true) (hk : requestLengths kind = some lens)
    (hl : body.length ∈ lens) :
    hostRequest kind tag body owner s = .next ((owner body s).act
      { s with hlc := answered s kind tag (owner body s).body }) := by
  have hp := ((linkOpen_iff s).1 h).1
  simp only [hostRequest, whenPowered_on _ _ hp, takeFrame_open _ _ _ _ _ h]
  simp [checkedAnswer, hk, hl]

end Sys2Proof.Machine
end

