-- ==== Sys2Proof/Laws/FramesBase.lean ====
section
/-! SUPPORT. Frames: what the operations of Ops, Depth, Trips, Ceiling, Edits, Flags and Coupling leave unchanged. -/

namespace Sys2Proof.Machine

set_option linter.unusedTactic false
set_option linter.unusedSimpArgs false
set_option linter.unnecessarySeqFocus false

@[simp] theorem advanceTo_same (x0 : Nat) (s : State) : (advanceTo x0 s).powered = s.powered ∧
    (advanceTo x0 s).pending = s.pending ∧ (advanceTo x0 s).hlc = s.hlc ∧ (advanceTo x0 s).slc =
    s.slc ∧ (advanceTo x0 s).pfu = s.pfu ∧ (advanceTo x0 s).dpt = s.dpt ∧ (advanceTo x0 s).tqm =
    s.tqm ∧ (advanceTo x0 s).msq = s.msq ∧ (advanceTo x0 s).cpl = s.cpl ∧ (advanceTo x0 s).prt =
    s.prt ∧ (advanceTo x0 s).cfs = s.cfs := by
  refine ⟨?_, ?_, ?_, ?_, ?_, ?_, ?_, ?_, ?_, ?_, ?_⟩ <;> (simp [advanceTo])

@[simp] theorem formReply_same (x0 : Place) (s : State) : (formReply x0 s).now = s.now ∧ (formReply
    x0 s).powered = s.powered ∧ (formReply x0 s).pending = s.pending ∧ (formReply x0 s).slc = s.slc
    ∧ (formReply x0 s).pfu = s.pfu ∧ (formReply x0 s).dpt = s.dpt ∧ (formReply x0 s).tqm = s.tqm ∧
    (formReply x0 s).msq = s.msq ∧ (formReply x0 s).cpl = s.cpl ∧ (formReply x0 s).prt = s.prt ∧
    (formReply x0 s).cfs = s.cfs := by
  refine ⟨?_, ?_, ?_, ?_, ?_, ?_, ?_, ?_, ?_, ?_, ?_⟩ <;> (simp [formReply])

@[simp] theorem onDrum_same (x0 : Drum) (x1 : DrumTrack → DrumTrack) (s : State) : (onDrum x0 x1
    s).now = s.now ∧ (onDrum x0 x1 s).powered = s.powered ∧ (onDrum x0 x1 s).pending = s.pending ∧
    (onDrum x0 x1 s).hlc = s.hlc ∧ (onDrum x0 x1 s).slc = s.slc ∧ (onDrum x0 x1 s).pfu = s.pfu ∧
    (onDrum x0 x1 s).tqm = s.tqm ∧ (onDrum x0 x1 s).msq = s.msq ∧ (onDrum x0 x1 s).cpl = s.cpl ∧
    (onDrum x0 x1 s).prt = s.prt ∧ (onDrum x0 x1 s).cfs = s.cfs := by
  refine ⟨?_, ?_, ?_, ?_, ?_, ?_, ?_, ?_, ?_, ?_, ?_⟩ <;> (simp [onDrum])

@[simp] theorem onConv_same (x0 : Conveyance) (x1 : ConvTrack → ConvTrack) (s : State) : (onConv x0
    x1 s).now = s.now ∧ (onConv x0 x1 s).powered = s.powered ∧ (onConv x0 x1 s).pending = s.pending
    ∧ (onConv x0 x1 s).hlc = s.hlc ∧ (onConv x0 x1 s).slc = s.slc ∧ (onConv x0 x1 s).pfu = s.pfu ∧
    (onConv x0 x1 s).dpt.drum1 = s.dpt.drum1 ∧ (onConv x0 x1 s).dpt.drum2 = s.dpt.drum2 ∧ (onConv x0
    x1 s).tqm = s.tqm ∧ (onConv x0 x1 s).msq = s.msq ∧ (onConv x0 x1 s).cpl = s.cpl ∧ (onConv x0 x1
    s).prt = s.prt ∧ (onConv x0 x1 s).cfs = s.cfs := by
  refine ⟨?_, ?_, ?_, ?_, ?_, ?_, ?_, ?_, ?_, ?_, ?_, ?_, ?_⟩ <;> first
    | ((simp [onConv]); done)
    | (((simp only [onConv]; repeat' split) <;> simp); done)

@[simp] theorem reaim_same (x0 : Conveyance) (s : State) : (reaim x0 s).now = s.now ∧ (reaim x0
    s).powered = s.powered ∧ (reaim x0 s).pending = s.pending ∧ (reaim x0 s).hlc = s.hlc ∧ (reaim x0
    s).slc = s.slc ∧ (reaim x0 s).pfu = s.pfu ∧ (reaim x0 s).dpt.drum1 = s.dpt.drum1 ∧ (reaim x0
    s).dpt.drum2 = s.dpt.drum2 ∧ (reaim x0 s).tqm = s.tqm ∧ (reaim x0 s).msq = s.msq ∧ (reaim x0
    s).cpl = s.cpl ∧ (reaim x0 s).prt = s.prt ∧ (reaim x0 s).cfs = s.cfs := by
  refine ⟨?_, ?_, ?_, ?_, ?_, ?_, ?_, ?_, ?_, ?_, ?_, ?_, ?_⟩ <;> (simp [reaim])

@[simp] theorem claim_same (x0 : Trip → Change) (s : State) : (claim x0 s).now = s.now ∧ (claim x0
    s).powered = s.powered ∧ (claim x0 s).pending = s.pending ∧ (claim x0 s).hlc.places =
    s.hlc.places ∧ (claim x0 s).hlc.hunter = s.hlc.hunter ∧ (claim x0 s).hlc.lastByte =
    s.hlc.lastByte ∧ (claim x0 s).hlc.drain = s.hlc.drain ∧ (claim x0 s).slc = s.slc ∧ (claim x0
    s).pfu = s.pfu ∧ (claim x0 s).dpt = s.dpt ∧ (claim x0 s).tqm.originCage = s.tqm.originCage ∧
    (claim x0 s).tqm.originSkip = s.tqm.originSkip ∧ (claim x0 s).tqm.lastId = s.tqm.lastId ∧ (claim
    x0 s).cpl = s.cpl ∧ (claim x0 s).prt = s.prt ∧ (claim x0 s).cfs = s.cfs := by
  refine ⟨?_, ?_, ?_, ?_, ?_, ?_, ?_, ?_, ?_, ?_, ?_, ?_, ?_, ?_, ?_, ?_⟩ <;> (simp [claim])

@[simp] theorem moveTrip_same (x0 : Nat) (x1 : TripState) (x2 : TripCause) (s : State) : (moveTrip
    x0 x1 x2 s).now = s.now ∧ (moveTrip x0 x1 x2 s).powered = s.powered ∧ (moveTrip x0 x1 x2
    s).pending = s.pending ∧ (moveTrip x0 x1 x2 s).hlc.places = s.hlc.places ∧ (moveTrip x0 x1 x2
    s).hlc.hunter = s.hlc.hunter ∧ (moveTrip x0 x1 x2 s).hlc.lastByte = s.hlc.lastByte ∧ (moveTrip
    x0 x1 x2 s).hlc.drain = s.hlc.drain ∧ (moveTrip x0 x1 x2 s).slc = s.slc ∧ (moveTrip x0 x1 x2
    s).pfu = s.pfu ∧ (moveTrip x0 x1 x2 s).dpt = s.dpt ∧ (moveTrip x0 x1 x2 s).tqm.originCage =
    s.tqm.originCage ∧ (moveTrip x0 x1 x2 s).tqm.originSkip = s.tqm.originSkip ∧ (moveTrip x0 x1 x2
    s).tqm.lastId = s.tqm.lastId ∧ (moveTrip x0 x1 x2 s).cpl = s.cpl ∧ (moveTrip x0 x1 x2 s).prt =
    s.prt ∧ (moveTrip x0 x1 x2 s).cfs = s.cfs := by
  refine ⟨?_, ?_, ?_, ?_, ?_, ?_, ?_, ?_, ?_, ?_, ?_, ?_, ?_, ?_, ?_, ?_⟩ <;> (simp [moveTrip])

@[simp] theorem removeTrip_same (x0 : Nat) (x1 : TripEnd) (s : State) : (removeTrip x0 x1 s).now =
    s.now ∧ (removeTrip x0 x1 s).powered = s.powered ∧ (removeTrip x0 x1 s).pending = s.pending ∧
    (removeTrip x0 x1 s).hlc.places = s.hlc.places ∧ (removeTrip x0 x1 s).hlc.hunter = s.hlc.hunter
    ∧ (removeTrip x0 x1 s).hlc.lastByte = s.hlc.lastByte ∧ (removeTrip x0 x1 s).hlc.drain =
    s.hlc.drain ∧ (removeTrip x0 x1 s).slc = s.slc ∧ (removeTrip x0 x1 s).pfu = s.pfu ∧ (removeTrip
    x0 x1 s).dpt = s.dpt ∧ (removeTrip x0 x1 s).tqm.originCage = s.tqm.originCage ∧ (removeTrip x0
    x1 s).tqm.originSkip = s.tqm.originSkip ∧ (removeTrip x0 x1 s).tqm.lastId = s.tqm.lastId ∧
    (removeTrip x0 x1 s).cpl = s.cpl ∧ (removeTrip x0 x1 s).prt = s.prt ∧ (removeTrip x0 x1 s).cfs =
    s.cfs := by
  refine ⟨?_, ?_, ?_, ?_, ?_, ?_, ?_, ?_, ?_, ?_, ?_, ?_, ?_, ?_, ?_, ?_⟩ <;> (simp [removeTrip])

@[simp] theorem setOrigin_same (x0 : Conveyance) (x1 : OriginStatus) (s : State) : (setOrigin x0 x1
    s).now = s.now ∧ (setOrigin x0 x1 s).powered = s.powered ∧ (setOrigin x0 x1 s).pending =
    s.pending ∧ (setOrigin x0 x1 s).hlc = s.hlc ∧ (setOrigin x0 x1 s).slc = s.slc ∧ (setOrigin x0 x1
    s).pfu = s.pfu ∧ (setOrigin x0 x1 s).dpt = s.dpt ∧ (setOrigin x0 x1 s).tqm.lastId = s.tqm.lastId
    ∧ (setOrigin x0 x1 s).msq = s.msq ∧ (setOrigin x0 x1 s).cpl = s.cpl ∧ (setOrigin x0 x1 s).prt =
    s.prt ∧ (setOrigin x0 x1 s).cfs = s.cfs := by
  refine ⟨?_, ?_, ?_, ?_, ?_, ?_, ?_, ?_, ?_, ?_, ?_, ?_⟩ <;> first
    | ((simp [setOrigin]); done)
    | (((simp only [setOrigin]; repeat' split) <;> simp); done)

@[simp] theorem revokeOrigin_same (x0 : Conveyance) (s : State) : (revokeOrigin x0 s).now = s.now ∧
    (revokeOrigin x0 s).powered = s.powered ∧ (revokeOrigin x0 s).pending = s.pending ∧
    (revokeOrigin x0 s).hlc.places = s.hlc.places ∧ (revokeOrigin x0 s).hlc.hunter = s.hlc.hunter ∧
    (revokeOrigin x0 s).hlc.lastByte = s.hlc.lastByte ∧ (revokeOrigin x0 s).hlc.drain = s.hlc.drain
    ∧ (revokeOrigin x0 s).slc = s.slc ∧ (revokeOrigin x0 s).pfu = s.pfu ∧ (revokeOrigin x0 s).dpt =
    s.dpt ∧ (revokeOrigin x0 s).tqm.originCage = s.tqm.originCage ∧ (revokeOrigin x0
    s).tqm.originSkip = s.tqm.originSkip ∧ (revokeOrigin x0 s).tqm.lastId = s.tqm.lastId ∧
    (revokeOrigin x0 s).cpl = s.cpl ∧ (revokeOrigin x0 s).prt = s.prt ∧ (revokeOrigin x0 s).cfs =
    s.cfs := by
  refine ⟨?_, ?_, ?_, ?_, ?_, ?_, ?_, ?_, ?_, ?_, ?_, ?_, ?_, ?_, ?_, ?_⟩ <;> (simp [revokeOrigin])

@[simp] theorem originLost_same (x0 : Conveyance) (s : State) : (originLost x0 s).now = s.now ∧
    (originLost x0 s).powered = s.powered ∧ (originLost x0 s).pending = s.pending ∧ (originLost x0
    s).hlc.places = s.hlc.places ∧ (originLost x0 s).hlc.hunter = s.hlc.hunter ∧ (originLost x0
    s).hlc.lastByte = s.hlc.lastByte ∧ (originLost x0 s).hlc.drain = s.hlc.drain ∧ (originLost x0
    s).slc = s.slc ∧ (originLost x0 s).pfu = s.pfu ∧ (originLost x0 s).dpt = s.dpt ∧ (originLost x0
    s).tqm.lastId = s.tqm.lastId ∧ (originLost x0 s).cpl = s.cpl ∧ (originLost x0 s).prt = s.prt ∧
    (originLost x0 s).cfs = s.cfs := by
  refine ⟨?_, ?_, ?_, ?_, ?_, ?_, ?_, ?_, ?_, ?_, ?_, ?_, ?_, ?_⟩ <;> ((simp only [originLost]; repeat' split) <;> simp)

@[simp] theorem waiveOrigin_same (x0 : Conveyance) (s : State) : (waiveOrigin x0 s).now = s.now ∧
    (waiveOrigin x0 s).powered = s.powered ∧ (waiveOrigin x0 s).pending = s.pending ∧ (waiveOrigin
    x0 s).hlc.places = s.hlc.places ∧ (waiveOrigin x0 s).hlc.hunter = s.hlc.hunter ∧ (waiveOrigin x0
    s).hlc.lastByte = s.hlc.lastByte ∧ (waiveOrigin x0 s).hlc.drain = s.hlc.drain ∧ (waiveOrigin x0
    s).slc = s.slc ∧ (waiveOrigin x0 s).pfu = s.pfu ∧ (waiveOrigin x0 s).dpt = s.dpt ∧ (waiveOrigin
    x0 s).tqm.originCage = s.tqm.originCage ∧ (waiveOrigin x0 s).tqm.originSkip = s.tqm.originSkip ∧
    (waiveOrigin x0 s).tqm.lastId = s.tqm.lastId ∧ (waiveOrigin x0 s).cpl = s.cpl ∧ (waiveOrigin x0
    s).prt = s.prt ∧ (waiveOrigin x0 s).cfs = s.cfs := by
  refine ⟨?_, ?_, ?_, ?_, ?_, ?_, ?_, ?_, ?_, ?_, ?_, ?_, ?_, ?_, ?_, ?_⟩ <;> (simp [waiveOrigin])

@[simp] theorem originFound_same (x0 : Conveyance) (s : State) : (originFound x0 s).now = s.now ∧
    (originFound x0 s).powered = s.powered ∧ (originFound x0 s).pending = s.pending ∧ (originFound
    x0 s).hlc.places = s.hlc.places ∧ (originFound x0 s).hlc.hunter = s.hlc.hunter ∧ (originFound x0
    s).hlc.lastByte = s.hlc.lastByte ∧ (originFound x0 s).hlc.drain = s.hlc.drain ∧ (originFound x0
    s).slc = s.slc ∧ (originFound x0 s).pfu = s.pfu ∧ (originFound x0 s).dpt = s.dpt ∧ (originFound
    x0 s).tqm.lastId = s.tqm.lastId ∧ (originFound x0 s).cpl = s.cpl ∧ (originFound x0 s).prt =
    s.prt ∧ (originFound x0 s).cfs = s.cfs := by
  refine ⟨?_, ?_, ?_, ?_, ?_, ?_, ?_, ?_, ?_, ?_, ?_, ?_, ?_, ?_⟩ <;> ((simp only [originFound]; repeat' split) <;> simp)

@[simp] theorem gatesOpened_same (x0 : Nat) (s : State) : (gatesOpened x0 s).now = s.now ∧
    (gatesOpened x0 s).powered = s.powered ∧ (gatesOpened x0 s).pending = s.pending ∧ (gatesOpened
    x0 s).hlc.places = s.hlc.places ∧ (gatesOpened x0 s).hlc.hunter = s.hlc.hunter ∧ (gatesOpened x0
    s).hlc.lastByte = s.hlc.lastByte ∧ (gatesOpened x0 s).hlc.drain = s.hlc.drain ∧ (gatesOpened x0
    s).slc = s.slc ∧ (gatesOpened x0 s).pfu = s.pfu ∧ (gatesOpened x0 s).dpt = s.dpt ∧ (gatesOpened
    x0 s).tqm.originCage = s.tqm.originCage ∧ (gatesOpened x0 s).tqm.originSkip = s.tqm.originSkip ∧
    (gatesOpened x0 s).tqm.lastId = s.tqm.lastId ∧ (gatesOpened x0 s).cpl = s.cpl ∧ (gatesOpened x0
    s).prt = s.prt ∧ (gatesOpened x0 s).cfs = s.cfs := by
  refine ⟨?_, ?_, ?_, ?_, ?_, ?_, ?_, ?_, ?_, ?_, ?_, ?_, ?_, ?_, ?_, ?_⟩ <;> (simp [gatesOpened])

@[simp] theorem stationLoss_same (x0 : Nat) (s : State) : (stationLoss x0 s).now = s.now ∧
    (stationLoss x0 s).powered = s.powered ∧ (stationLoss x0 s).pending = s.pending ∧ (stationLoss
    x0 s).hlc.places = s.hlc.places ∧ (stationLoss x0 s).hlc.hunter = s.hlc.hunter ∧ (stationLoss x0
    s).hlc.lastByte = s.hlc.lastByte ∧ (stationLoss x0 s).hlc.drain = s.hlc.drain ∧ (stationLoss x0
    s).slc = s.slc ∧ (stationLoss x0 s).pfu = s.pfu ∧ (stationLoss x0 s).dpt = s.dpt ∧ (stationLoss
    x0 s).tqm.originCage = s.tqm.originCage ∧ (stationLoss x0 s).tqm.originSkip = s.tqm.originSkip ∧
    (stationLoss x0 s).tqm.lastId = s.tqm.lastId ∧ (stationLoss x0 s).cpl = s.cpl ∧ (stationLoss x0
    s).prt = s.prt ∧ (stationLoss x0 s).cfs = s.cfs := by
  refine ⟨?_, ?_, ?_, ?_, ?_, ?_, ?_, ?_, ?_, ?_, ?_, ?_, ?_, ?_, ?_, ?_⟩ <;> (simp [stationLoss])

@[simp] theorem takeReady_same (x0 : Nat) (s : State) : (takeReady x0 s).now = s.now ∧ (takeReady x0
    s).powered = s.powered ∧ (takeReady x0 s).pending = s.pending ∧ (takeReady x0 s).hlc.places =
    s.hlc.places ∧ (takeReady x0 s).hlc.hunter = s.hlc.hunter ∧ (takeReady x0 s).hlc.lastByte =
    s.hlc.lastByte ∧ (takeReady x0 s).hlc.drain = s.hlc.drain ∧ (takeReady x0 s).slc = s.slc ∧
    (takeReady x0 s).pfu = s.pfu ∧ (takeReady x0 s).dpt = s.dpt ∧ (takeReady x0 s).tqm.originCage =
    s.tqm.originCage ∧ (takeReady x0 s).tqm.originSkip = s.tqm.originSkip ∧ (takeReady x0
    s).tqm.lastId = s.tqm.lastId ∧ (takeReady x0 s).cpl = s.cpl ∧ (takeReady x0 s).prt = s.prt ∧
    (takeReady x0 s).cfs = s.cfs := by
  refine ⟨?_, ?_, ?_, ?_, ?_, ?_, ?_, ?_, ?_, ?_, ?_, ?_, ?_, ?_, ?_, ?_⟩ <;> (simp [takeReady])

@[simp] theorem joinQueue_same (x0 : Trip) (s : State) : (joinQueue x0 s).now = s.now ∧ (joinQueue
    x0 s).powered = s.powered ∧ (joinQueue x0 s).pending = s.pending ∧ (joinQueue x0 s).hlc.places =
    s.hlc.places ∧ (joinQueue x0 s).hlc.hunter = s.hlc.hunter ∧ (joinQueue x0 s).hlc.lastByte =
    s.hlc.lastByte ∧ (joinQueue x0 s).hlc.drain = s.hlc.drain ∧ (joinQueue x0 s).slc = s.slc ∧
    (joinQueue x0 s).pfu = s.pfu ∧ (joinQueue x0 s).dpt = s.dpt ∧ (joinQueue x0 s).tqm.originCage =
    s.tqm.originCage ∧ (joinQueue x0 s).tqm.originSkip = s.tqm.originSkip ∧ (joinQueue x0 s).msq =
    s.msq ∧ (joinQueue x0 s).cpl = s.cpl ∧ (joinQueue x0 s).prt = s.prt ∧ (joinQueue x0 s).cfs =
    s.cfs := by
  refine ⟨?_, ?_, ?_, ?_, ?_, ?_, ?_, ?_, ?_, ?_, ?_, ?_, ?_, ?_, ?_, ?_⟩ <;> (simp [joinQueue])

@[simp] theorem winderNotice_same (x0 : WinderCause) (x1 : Winder) (s : State) : (winderNotice x0 x1
    s).now = s.now ∧ (winderNotice x0 x1 s).powered = s.powered ∧ (winderNotice x0 x1 s).pending =
    s.pending ∧ (winderNotice x0 x1 s).hlc.places = s.hlc.places ∧ (winderNotice x0 x1 s).hlc.hunter
    = s.hlc.hunter ∧ (winderNotice x0 x1 s).hlc.lastByte = s.hlc.lastByte ∧ (winderNotice x0 x1
    s).hlc.drain = s.hlc.drain ∧ (winderNotice x0 x1 s).slc = s.slc ∧ (winderNotice x0 x1 s).pfu =
    s.pfu ∧ (winderNotice x0 x1 s).dpt = s.dpt ∧ (winderNotice x0 x1 s).tqm = s.tqm ∧ (winderNotice
    x0 x1 s).msq = s.msq ∧ (winderNotice x0 x1 s).cpl = s.cpl ∧ (winderNotice x0 x1 s).prt = s.prt ∧
    (winderNotice x0 x1 s).cfs = s.cfs := by
  refine ⟨?_, ?_, ?_, ?_, ?_, ?_, ?_, ?_, ?_, ?_, ?_, ?_, ?_, ?_, ?_⟩ <;> (simp [winderNotice])

@[simp] theorem setWinder_same (x0 : Winder) (x1 : WinderCause) (s : State) : (setWinder x0 x1
    s).now = s.now ∧ (setWinder x0 x1 s).powered = s.powered ∧ (setWinder x0 x1 s).pending =
    s.pending ∧ (setWinder x0 x1 s).hlc.places = s.hlc.places ∧ (setWinder x0 x1 s).hlc.hunter =
    s.hlc.hunter ∧ (setWinder x0 x1 s).hlc.lastByte = s.hlc.lastByte ∧ (setWinder x0 x1 s).hlc.drain
    = s.hlc.drain ∧ (setWinder x0 x1 s).slc = s.slc ∧ (setWinder x0 x1 s).pfu = s.pfu ∧ (setWinder
    x0 x1 s).dpt = s.dpt ∧ (setWinder x0 x1 s).tqm = s.tqm ∧ (setWinder x0 x1 s).cpl = s.cpl ∧
    (setWinder x0 x1 s).prt = s.prt ∧ (setWinder x0 x1 s).cfs = s.cfs := by
  refine ⟨?_, ?_, ?_, ?_, ?_, ?_, ?_, ?_, ?_, ?_, ?_, ?_, ?_, ?_⟩ <;> (simp [setWinder])

@[simp] theorem setCurrent_same (x0 : Option Nat) (s : State) : (setCurrent x0 s).now = s.now ∧
    (setCurrent x0 s).powered = s.powered ∧ (setCurrent x0 s).pending = s.pending ∧ (setCurrent x0
    s).hlc = s.hlc ∧ (setCurrent x0 s).slc = s.slc ∧ (setCurrent x0 s).pfu = s.pfu ∧ (setCurrent x0
    s).dpt = s.dpt ∧ (setCurrent x0 s).tqm = s.tqm ∧ (setCurrent x0 s).cpl = s.cpl ∧ (setCurrent x0
    s).prt = s.prt ∧ (setCurrent x0 s).cfs = s.cfs := by
  refine ⟨?_, ?_, ?_, ?_, ?_, ?_, ?_, ?_, ?_, ?_, ?_⟩ <;> (simp [setCurrent])

@[simp] theorem setTimer_same (x0 : Option PhaseTimer) (s : State) : (setTimer x0 s).now = s.now ∧
    (setTimer x0 s).powered = s.powered ∧ (setTimer x0 s).pending = s.pending ∧ (setTimer x0 s).hlc
    = s.hlc ∧ (setTimer x0 s).slc = s.slc ∧ (setTimer x0 s).pfu = s.pfu ∧ (setTimer x0 s).dpt =
    s.dpt ∧ (setTimer x0 s).tqm = s.tqm ∧ (setTimer x0 s).cpl = s.cpl ∧ (setTimer x0 s).prt = s.prt
    ∧ (setTimer x0 s).cfs = s.cfs := by
  refine ⟨?_, ?_, ?_, ?_, ?_, ?_, ?_, ?_, ?_, ?_, ?_⟩ <;> (simp [setTimer])

@[simp] theorem setSettle_same (x0 : Option SettleEnd) (s : State) : (setSettle x0 s).now = s.now ∧
    (setSettle x0 s).powered = s.powered ∧ (setSettle x0 s).pending = s.pending ∧ (setSettle x0
    s).hlc = s.hlc ∧ (setSettle x0 s).slc = s.slc ∧ (setSettle x0 s).pfu = s.pfu ∧ (setSettle x0
    s).dpt = s.dpt ∧ (setSettle x0 s).tqm = s.tqm ∧ (setSettle x0 s).cpl = s.cpl ∧ (setSettle x0
    s).prt = s.prt ∧ (setSettle x0 s).cfs = s.cfs := by
  refine ⟨?_, ?_, ?_, ?_, ?_, ?_, ?_, ?_, ?_, ?_, ?_⟩ <;> (simp [setSettle])

@[simp] theorem clearExcess_same (s : State) : (clearExcess s).now = s.now ∧ (clearExcess s).powered
    = s.powered ∧ (clearExcess s).pending = s.pending ∧ (clearExcess s).hlc = s.hlc ∧ (clearExcess
    s).slc = s.slc ∧ (clearExcess s).pfu = s.pfu ∧ (clearExcess s).dpt = s.dpt ∧ (clearExcess s).tqm
    = s.tqm ∧ (clearExcess s).cpl = s.cpl ∧ (clearExcess s).prt = s.prt ∧ (clearExcess s).cfs =
    s.cfs := by
  refine ⟨?_, ?_, ?_, ?_, ?_, ?_, ?_, ?_, ?_, ?_, ?_⟩ <;> (simp [clearExcess])

@[simp] theorem startBrakeDelay_same (s : State) : (startBrakeDelay s).now = s.now ∧
    (startBrakeDelay s).powered = s.powered ∧ (startBrakeDelay s).pending = s.pending ∧
    (startBrakeDelay s).hlc = s.hlc ∧ (startBrakeDelay s).slc = s.slc ∧ (startBrakeDelay s).pfu =
    s.pfu ∧ (startBrakeDelay s).dpt = s.dpt ∧ (startBrakeDelay s).tqm = s.tqm ∧ (startBrakeDelay
    s).cpl = s.cpl ∧ (startBrakeDelay s).prt = s.prt ∧ (startBrakeDelay s).cfs = s.cfs := by
  refine ⟨?_, ?_, ?_, ?_, ?_, ?_, ?_, ?_, ?_, ?_, ?_⟩ <;> (simp [startBrakeDelay])

@[simp] theorem setSearch_same (x0 : Drum) (x1 : Option SearchRec) (s : State) : (setSearch x0 x1
    s).now = s.now ∧ (setSearch x0 x1 s).powered = s.powered ∧ (setSearch x0 x1 s).pending =
    s.pending ∧ (setSearch x0 x1 s).hlc = s.hlc ∧ (setSearch x0 x1 s).slc = s.slc ∧ (setSearch x0 x1
    s).pfu = s.pfu ∧ (setSearch x0 x1 s).dpt = s.dpt ∧ (setSearch x0 x1 s).tqm = s.tqm ∧ (setSearch
    x0 x1 s).cpl = s.cpl ∧ (setSearch x0 x1 s).prt = s.prt ∧ (setSearch x0 x1 s).cfs = s.cfs := by
  refine ⟨?_, ?_, ?_, ?_, ?_, ?_, ?_, ?_, ?_, ?_, ?_⟩ <;> (simp [setSearch])

@[simp] theorem onSearch_same (x0 : Drum) (x1 : SearchRec → SearchRec) (s : State) : (onSearch x0 x1
    s).now = s.now ∧ (onSearch x0 x1 s).powered = s.powered ∧ (onSearch x0 x1 s).pending = s.pending
    ∧ (onSearch x0 x1 s).hlc = s.hlc ∧ (onSearch x0 x1 s).slc = s.slc ∧ (onSearch x0 x1 s).pfu =
    s.pfu ∧ (onSearch x0 x1 s).dpt = s.dpt ∧ (onSearch x0 x1 s).tqm = s.tqm ∧ (onSearch x0 x1 s).cpl
    = s.cpl ∧ (onSearch x0 x1 s).prt = s.prt ∧ (onSearch x0 x1 s).cfs = s.cfs := by
  refine ⟨?_, ?_, ?_, ?_, ?_, ?_, ?_, ?_, ?_, ?_, ?_⟩ <;> (simp [onSearch])

@[simp] theorem setCeiling_same (x0 : Ceiling) (s : State) : (setCeiling x0 s).now = s.now ∧
    (setCeiling x0 s).powered = s.powered ∧ (setCeiling x0 s).pending = s.pending ∧ (setCeiling x0
    s).hlc.places = s.hlc.places ∧ (setCeiling x0 s).hlc.hunter = s.hlc.hunter ∧ (setCeiling x0
    s).hlc.lastByte = s.hlc.lastByte ∧ (setCeiling x0 s).hlc.drain = s.hlc.drain ∧ (setCeiling x0
    s).slc = s.slc ∧ (setCeiling x0 s).pfu = s.pfu ∧ (setCeiling x0 s).dpt = s.dpt ∧ (setCeiling x0
    s).tqm = s.tqm ∧ (setCeiling x0 s).cpl = s.cpl ∧ (setCeiling x0 s).prt = s.prt ∧ (setCeiling x0
    s).cfs = s.cfs := by
  refine ⟨?_, ?_, ?_, ?_, ?_, ?_, ?_, ?_, ?_, ?_, ?_, ?_, ?_, ?_⟩ <;> first
    | ((simp [setCeiling]); done)
    | (((simp only [setCeiling]; repeat' split) <;> simp); done)

@[simp] theorem bringToTarget_same (s : State) : (bringToTarget s).now = s.now ∧ (bringToTarget
    s).powered = s.powered ∧ (bringToTarget s).pending = s.pending ∧ (bringToTarget s).hlc.places =
    s.hlc.places ∧ (bringToTarget s).hlc.hunter = s.hlc.hunter ∧ (bringToTarget s).hlc.lastByte =
    s.hlc.lastByte ∧ (bringToTarget s).hlc.drain = s.hlc.drain ∧ (bringToTarget s).slc = s.slc ∧
    (bringToTarget s).pfu = s.pfu ∧ (bringToTarget s).dpt = s.dpt ∧ (bringToTarget s).tqm = s.tqm ∧
    (bringToTarget s).cpl = s.cpl ∧ (bringToTarget s).prt = s.prt ∧ (bringToTarget s).cfs = s.cfs :=
    by
  refine ⟨?_, ?_, ?_, ?_, ?_, ?_, ?_, ?_, ?_, ?_, ?_, ?_, ?_, ?_⟩ <;> ((simp only [bringToTarget]; repeat' split) <;> simp)

@[simp] theorem setClamp_same (x0 : Bool) (s : State) : (setClamp x0 s).now = s.now ∧ (setClamp x0
    s).powered = s.powered ∧ (setClamp x0 s).pending = s.pending ∧ (setClamp x0 s).hlc.places =
    s.hlc.places ∧ (setClamp x0 s).hlc.hunter = s.hlc.hunter ∧ (setClamp x0 s).hlc.lastByte =
    s.hlc.lastByte ∧ (setClamp x0 s).hlc.drain = s.hlc.drain ∧ (setClamp x0 s).slc = s.slc ∧
    (setClamp x0 s).pfu = s.pfu ∧ (setClamp x0 s).dpt = s.dpt ∧ (setClamp x0 s).tqm = s.tqm ∧
    (setClamp x0 s).cpl = s.cpl ∧ (setClamp x0 s).prt = s.prt ∧ (setClamp x0 s).cfs = s.cfs := by
  refine ⟨?_, ?_, ?_, ?_, ?_, ?_, ?_, ?_, ?_, ?_, ?_, ?_, ?_, ?_⟩ <;> ((simp only [setClamp]; repeat' split) <;> simp)

@[simp] theorem onInForce_same (x0 : Configuration → Configuration) (s : State) : (onInForce x0
    s).now = s.now ∧ (onInForce x0 s).powered = s.powered ∧ (onInForce x0 s).pending = s.pending ∧
    (onInForce x0 s).hlc = s.hlc ∧ (onInForce x0 s).slc = s.slc ∧ (onInForce x0 s).pfu = s.pfu ∧
    (onInForce x0 s).dpt = s.dpt ∧ (onInForce x0 s).tqm = s.tqm ∧ (onInForce x0 s).msq = s.msq ∧
    (onInForce x0 s).cpl = s.cpl ∧ (onInForce x0 s).prt = s.prt ∧ (onInForce x0 s).cfs.image =
    s.cfs.image ∧ (onInForce x0 s).cfs.write = s.cfs.write ∧ (onInForce x0 s).cfs.working =
    s.cfs.working := by
  refine ⟨?_, ?_, ?_, ?_, ?_, ?_, ?_, ?_, ?_, ?_, ?_, ?_, ?_, ?_⟩ <;> (simp [onInForce])

@[simp] theorem setStaged_same (x0 : List Edit) (s : State) : (setStaged x0 s).now = s.now ∧
    (setStaged x0 s).powered = s.powered ∧ (setStaged x0 s).pending = s.pending ∧ (setStaged x0
    s).hlc = s.hlc ∧ (setStaged x0 s).slc = s.slc ∧ (setStaged x0 s).dpt = s.dpt ∧ (setStaged x0
    s).tqm = s.tqm ∧ (setStaged x0 s).msq = s.msq ∧ (setStaged x0 s).cpl = s.cpl ∧ (setStaged x0
    s).prt = s.prt ∧ (setStaged x0 s).cfs = s.cfs := by
  refine ⟨?_, ?_, ?_, ?_, ?_, ?_, ?_, ?_, ?_, ?_, ?_⟩ <;> (simp [setStaged])

@[simp] theorem putInForce_same (x0 : Edit) (s : State) : (putInForce x0 s).now = s.now ∧
    (putInForce x0 s).powered = s.powered ∧ (putInForce x0 s).pending = s.pending ∧ (putInForce x0
    s).hlc = s.hlc ∧ (putInForce x0 s).slc = s.slc ∧ (putInForce x0 s).pfu = s.pfu ∧ (putInForce x0
    s).dpt = s.dpt ∧ (putInForce x0 s).tqm = s.tqm ∧ (putInForce x0 s).msq = s.msq ∧ (putInForce x0
    s).cpl = s.cpl ∧ (putInForce x0 s).prt = s.prt ∧ (putInForce x0 s).cfs.image = s.cfs.image ∧
    (putInForce x0 s).cfs.write = s.cfs.write ∧ (putInForce x0 s).cfs.working = s.cfs.working := by
  refine ⟨?_, ?_, ?_, ?_, ?_, ?_, ?_, ?_, ?_, ?_, ?_, ?_, ?_, ?_⟩ <;> (simp [putInForce])

@[simp] theorem applyStaged_same (s : State) : (applyStaged s).now = s.now ∧ (applyStaged s).powered
    = s.powered ∧ (applyStaged s).pending = s.pending ∧ (applyStaged s).hlc.places = s.hlc.places ∧
    (applyStaged s).hlc.hunter = s.hlc.hunter ∧ (applyStaged s).hlc.lastByte = s.hlc.lastByte ∧
    (applyStaged s).hlc.drain = s.hlc.drain ∧ (applyStaged s).slc = s.slc ∧ (applyStaged s).dpt =
    s.dpt ∧ (applyStaged s).tqm = s.tqm ∧ (applyStaged s).msq = s.msq ∧ (applyStaged s).cpl = s.cpl
    ∧ (applyStaged s).prt = s.prt ∧ (applyStaged s).cfs.image = s.cfs.image ∧ (applyStaged
    s).cfs.write = s.cfs.write ∧ (applyStaged s).cfs.working = s.cfs.working := by
  refine ⟨?_, ?_, ?_, ?_, ?_, ?_, ?_, ?_, ?_, ?_, ?_, ?_, ?_, ?_, ?_, ?_⟩ <;> first
    | ((simp [applyStaged]); done)
    | (((simp only [applyStaged]; repeat' split) <;> simp); done)

@[simp] theorem enterParked_same (x0 : WinderCause) (s : State) : (enterParked x0 s).now = s.now ∧
    (enterParked x0 s).powered = s.powered ∧ (enterParked x0 s).pending = s.pending ∧ (enterParked
    x0 s).hlc.places = s.hlc.places ∧ (enterParked x0 s).hlc.hunter = s.hlc.hunter ∧ (enterParked x0
    s).hlc.lastByte = s.hlc.lastByte ∧ (enterParked x0 s).hlc.drain = s.hlc.drain ∧ (enterParked x0
    s).slc = s.slc ∧ (enterParked x0 s).pfu = s.pfu ∧ (enterParked x0 s).dpt = s.dpt ∧ (enterParked
    x0 s).tqm = s.tqm ∧ (enterParked x0 s).cpl = s.cpl ∧ (enterParked x0 s).prt = s.prt ∧
    (enterParked x0 s).cfs = s.cfs := by
  refine ⟨?_, ?_, ?_, ?_, ?_, ?_, ?_, ?_, ?_, ?_, ?_, ?_, ?_, ?_⟩ <;> (simp [enterParked])

@[simp] theorem setPresence_same (x0 : Protection) (x1 : SubjectSet) (s : State) : (setPresence x0
    x1 s).now = s.now ∧ (setPresence x0 x1 s).powered = s.powered ∧ (setPresence x0 x1 s).pending =
    s.pending ∧ (setPresence x0 x1 s).hlc = s.hlc ∧ (setPresence x0 x1 s).slc = s.slc ∧ (setPresence
    x0 x1 s).pfu = s.pfu ∧ (setPresence x0 x1 s).dpt = s.dpt ∧ (setPresence x0 x1 s).tqm = s.tqm ∧
    (setPresence x0 x1 s).msq = s.msq ∧ (setPresence x0 x1 s).cpl = s.cpl ∧ (setPresence x0 x1
    s).cfs = s.cfs := by
  refine ⟨?_, ?_, ?_, ?_, ?_, ?_, ?_, ?_, ?_, ?_, ?_⟩ <;> (simp [setPresence])

@[simp] theorem setEntries_same (x0 : List FaultEntry) (s : State) : (setEntries x0 s).now = s.now ∧
    (setEntries x0 s).powered = s.powered ∧ (setEntries x0 s).pending = s.pending ∧ (setEntries x0
    s).hlc = s.hlc ∧ (setEntries x0 s).slc = s.slc ∧ (setEntries x0 s).pfu = s.pfu ∧ (setEntries x0
    s).dpt = s.dpt ∧ (setEntries x0 s).tqm = s.tqm ∧ (setEntries x0 s).msq = s.msq ∧ (setEntries x0
    s).cpl = s.cpl ∧ (setEntries x0 s).cfs = s.cfs := by
  refine ⟨?_, ?_, ?_, ?_, ?_, ?_, ?_, ?_, ?_, ?_, ?_⟩ <;> (simp [setEntries])

@[simp] theorem faultNotice_same (x0 : FaultCause) (x1 : Option RemovalReason) (x2 : FaultEntry) (x3
    : Nat) (x4 : Bool) (s : State) : (faultNotice x0 x1 x2 x3 x4 s).now = s.now ∧ (faultNotice x0 x1
    x2 x3 x4 s).powered = s.powered ∧ (faultNotice x0 x1 x2 x3 x4 s).pending = s.pending ∧
    (faultNotice x0 x1 x2 x3 x4 s).hlc.places = s.hlc.places ∧ (faultNotice x0 x1 x2 x3 x4
    s).hlc.hunter = s.hlc.hunter ∧ (faultNotice x0 x1 x2 x3 x4 s).hlc.lastByte = s.hlc.lastByte ∧
    (faultNotice x0 x1 x2 x3 x4 s).hlc.drain = s.hlc.drain ∧ (faultNotice x0 x1 x2 x3 x4 s).slc =
    s.slc ∧ (faultNotice x0 x1 x2 x3 x4 s).pfu = s.pfu ∧ (faultNotice x0 x1 x2 x3 x4 s).dpt = s.dpt
    ∧ (faultNotice x0 x1 x2 x3 x4 s).tqm = s.tqm ∧ (faultNotice x0 x1 x2 x3 x4 s).msq = s.msq ∧
    (faultNotice x0 x1 x2 x3 x4 s).cpl = s.cpl ∧ (faultNotice x0 x1 x2 x3 x4 s).prt = s.prt ∧
    (faultNotice x0 x1 x2 x3 x4 s).cfs = s.cfs := by
  refine ⟨?_, ?_, ?_, ?_, ?_, ?_, ?_, ?_, ?_, ?_, ?_, ?_, ?_, ?_, ?_⟩ <;> (simp [faultNotice])

@[simp] theorem changeEntry_same (x0 : FaultCause) (x1 : FaultEntry) (x2 : Nat) (s : State) :
    (changeEntry x0 x1 x2 s).now = s.now ∧ (changeEntry x0 x1 x2 s).powered = s.powered ∧
    (changeEntry x0 x1 x2 s).pending = s.pending ∧ (changeEntry x0 x1 x2 s).hlc.places =
    s.hlc.places ∧ (changeEntry x0 x1 x2 s).hlc.hunter = s.hlc.hunter ∧ (changeEntry x0 x1 x2
    s).hlc.lastByte = s.hlc.lastByte ∧ (changeEntry x0 x1 x2 s).hlc.drain = s.hlc.drain ∧
    (changeEntry x0 x1 x2 s).slc = s.slc ∧ (changeEntry x0 x1 x2 s).pfu = s.pfu ∧ (changeEntry x0 x1
    x2 s).dpt = s.dpt ∧ (changeEntry x0 x1 x2 s).tqm = s.tqm ∧ (changeEntry x0 x1 x2 s).msq = s.msq
    ∧ (changeEntry x0 x1 x2 s).cpl = s.cpl ∧ (changeEntry x0 x1 x2 s).cfs = s.cfs := by
  refine ⟨?_, ?_, ?_, ?_, ?_, ?_, ?_, ?_, ?_, ?_, ?_, ?_, ?_, ?_⟩ <;> (simp [changeEntry])

@[simp] theorem endEmergency_same (s : State) : (endEmergency s).now = s.now ∧ (endEmergency
    s).powered = s.powered ∧ (endEmergency s).pending = s.pending ∧ (endEmergency s).hlc.places =
    s.hlc.places ∧ (endEmergency s).hlc.hunter = s.hlc.hunter ∧ (endEmergency s).hlc.lastByte =
    s.hlc.lastByte ∧ (endEmergency s).hlc.drain = s.hlc.drain ∧ (endEmergency s).slc = s.slc ∧
    (endEmergency s).dpt = s.dpt ∧ (endEmergency s).tqm = s.tqm ∧ (endEmergency s).prt = s.prt ∧
    (endEmergency s).cfs.image = s.cfs.image ∧ (endEmergency s).cfs.write = s.cfs.write ∧
    (endEmergency s).cfs.working = s.cfs.working := by
  refine ⟨?_, ?_, ?_, ?_, ?_, ?_, ?_, ?_, ?_, ?_, ?_, ?_, ?_, ?_⟩ <;> ((simp only [endEmergency]; repeat' split) <;> simp)

@[simp] theorem settleList_same (x0 : List FaultEntry) (s : State) : (settleList x0 s).now = s.now ∧
    (settleList x0 s).powered = s.powered ∧ (settleList x0 s).pending = s.pending ∧ (settleList x0
    s).hlc.places = s.hlc.places ∧ (settleList x0 s).hlc.hunter = s.hlc.hunter ∧ (settleList x0
    s).hlc.lastByte = s.hlc.lastByte ∧ (settleList x0 s).hlc.drain = s.hlc.drain ∧ (settleList x0
    s).slc = s.slc ∧ (settleList x0 s).dpt = s.dpt ∧ (settleList x0 s).tqm = s.tqm ∧ (settleList x0
    s).cfs.image = s.cfs.image ∧ (settleList x0 s).cfs.write = s.cfs.write ∧ (settleList x0
    s).cfs.working = s.cfs.working := by
  refine ⟨?_, ?_, ?_, ?_, ?_, ?_, ?_, ?_, ?_, ?_, ?_, ?_, ?_⟩ <;> first
    | ((simp [settleList]); done)
    | (((simp only [settleList]; repeat' split) <;> simp); done)

@[simp] theorem takeOut_same (x0 : RemovalReason) (x1 : FaultEntry) (x2 : Nat) (s : State) :
    (takeOut x0 x1 x2 s).now = s.now ∧ (takeOut x0 x1 x2 s).powered = s.powered ∧ (takeOut x0 x1 x2
    s).pending = s.pending ∧ (takeOut x0 x1 x2 s).hlc.places = s.hlc.places ∧ (takeOut x0 x1 x2
    s).hlc.hunter = s.hlc.hunter ∧ (takeOut x0 x1 x2 s).hlc.lastByte = s.hlc.lastByte ∧ (takeOut x0
    x1 x2 s).hlc.drain = s.hlc.drain ∧ (takeOut x0 x1 x2 s).slc = s.slc ∧ (takeOut x0 x1 x2 s).pfu =
    s.pfu ∧ (takeOut x0 x1 x2 s).dpt = s.dpt ∧ (takeOut x0 x1 x2 s).tqm = s.tqm ∧ (takeOut x0 x1 x2
    s).msq = s.msq ∧ (takeOut x0 x1 x2 s).cpl = s.cpl ∧ (takeOut x0 x1 x2 s).cfs = s.cfs := by
  refine ⟨?_, ?_, ?_, ?_, ?_, ?_, ?_, ?_, ?_, ?_, ?_, ?_, ?_, ?_⟩ <;> (simp [takeOut])

@[simp] theorem removeEntry_same (x0 : RemovalReason) (x1 : FaultEntry) (x2 : Nat) (s : State) :
    (removeEntry x0 x1 x2 s).now = s.now ∧ (removeEntry x0 x1 x2 s).powered = s.powered ∧
    (removeEntry x0 x1 x2 s).pending = s.pending ∧ (removeEntry x0 x1 x2 s).hlc.places =
    s.hlc.places ∧ (removeEntry x0 x1 x2 s).hlc.hunter = s.hlc.hunter ∧ (removeEntry x0 x1 x2
    s).hlc.lastByte = s.hlc.lastByte ∧ (removeEntry x0 x1 x2 s).hlc.drain = s.hlc.drain ∧
    (removeEntry x0 x1 x2 s).slc = s.slc ∧ (removeEntry x0 x1 x2 s).dpt = s.dpt ∧ (removeEntry x0 x1
    x2 s).tqm = s.tqm ∧ (removeEntry x0 x1 x2 s).cfs.image = s.cfs.image ∧ (removeEntry x0 x1 x2
    s).cfs.write = s.cfs.write ∧ (removeEntry x0 x1 x2 s).cfs.working = s.cfs.working := by
  refine ⟨?_, ?_, ?_, ?_, ?_, ?_, ?_, ?_, ?_, ?_, ?_, ?_, ?_⟩ <;> (simp [removeEntry])

@[simp] theorem goneFromEntry.hold_same (x0 : FaultEntry) (x1 : Nat) (s : State) :
    (goneFromEntry.hold x0 x1 s).now = s.now ∧ (goneFromEntry.hold x0 x1 s).powered = s.powered ∧
    (goneFromEntry.hold x0 x1 s).pending = s.pending ∧ (goneFromEntry.hold x0 x1 s).hlc.places =
    s.hlc.places ∧ (goneFromEntry.hold x0 x1 s).hlc.hunter = s.hlc.hunter ∧ (goneFromEntry.hold x0
    x1 s).hlc.lastByte = s.hlc.lastByte ∧ (goneFromEntry.hold x0 x1 s).hlc.drain = s.hlc.drain ∧
    (goneFromEntry.hold x0 x1 s).slc = s.slc ∧ (goneFromEntry.hold x0 x1 s).pfu = s.pfu ∧
    (goneFromEntry.hold x0 x1 s).dpt = s.dpt ∧ (goneFromEntry.hold x0 x1 s).tqm = s.tqm ∧
    (goneFromEntry.hold x0 x1 s).msq = s.msq ∧ (goneFromEntry.hold x0 x1 s).cpl = s.cpl ∧
    (goneFromEntry.hold x0 x1 s).cfs = s.cfs := by
  refine ⟨?_, ?_, ?_, ?_, ?_, ?_, ?_, ?_, ?_, ?_, ?_, ?_, ?_, ?_⟩ <;> first
    | ((simp [goneFromEntry.hold]); done)
    | (((simp only [goneFromEntry.hold]; repeat' split) <;> simp); done)

@[simp] theorem goneFromEntry_same (x0 : FaultEntry) (x1 : Nat) (s : State) : (goneFromEntry x0 x1
    s).now = s.now ∧ (goneFromEntry x0 x1 s).powered = s.powered ∧ (goneFromEntry x0 x1 s).pending =
    s.pending ∧ (goneFromEntry x0 x1 s).hlc.places = s.hlc.places ∧ (goneFromEntry x0 x1
    s).hlc.hunter = s.hlc.hunter ∧ (goneFromEntry x0 x1 s).hlc.lastByte = s.hlc.lastByte ∧
    (goneFromEntry x0 x1 s).hlc.drain = s.hlc.drain ∧ (goneFromEntry x0 x1 s).slc = s.slc ∧
    (goneFromEntry x0 x1 s).dpt = s.dpt ∧ (goneFromEntry x0 x1 s).tqm = s.tqm ∧ (goneFromEntry x0 x1
    s).cfs.image = s.cfs.image ∧ (goneFromEntry x0 x1 s).cfs.write = s.cfs.write ∧ (goneFromEntry x0
    x1 s).cfs.working = s.cfs.working := by
  refine ⟨?_, ?_, ?_, ?_, ?_, ?_, ?_, ?_, ?_, ?_, ?_, ?_, ?_⟩ <;> ((simp only [goneFromEntry]; repeat' split) <;> simp)

@[simp] theorem gone_same (x0 : Protection) (x1 : Nat) (s : State) : (gone x0 x1 s).now = s.now ∧
    (gone x0 x1 s).powered = s.powered ∧ (gone x0 x1 s).pending = s.pending ∧ (gone x0 x1
    s).hlc.places = s.hlc.places ∧ (gone x0 x1 s).hlc.hunter = s.hlc.hunter ∧ (gone x0 x1
    s).hlc.lastByte = s.hlc.lastByte ∧ (gone x0 x1 s).hlc.drain = s.hlc.drain ∧ (gone x0 x1 s).slc =
    s.slc ∧ (gone x0 x1 s).dpt = s.dpt ∧ (gone x0 x1 s).tqm = s.tqm ∧ (gone x0 x1 s).cfs.image =
    s.cfs.image ∧ (gone x0 x1 s).cfs.write = s.cfs.write ∧ (gone x0 x1 s).cfs.working =
    s.cfs.working := by
  refine ⟨?_, ?_, ?_, ?_, ?_, ?_, ?_, ?_, ?_, ?_, ?_, ?_, ?_⟩ <;> ((simp only [gone]; repeat' split) <;> simp)

@[simp] theorem goneAll_same (x0 : Protection) (s : State) : (goneAll x0 s).now = s.now ∧ (goneAll
    x0 s).powered = s.powered ∧ (goneAll x0 s).pending = s.pending ∧ (goneAll x0 s).hlc.places =
    s.hlc.places ∧ (goneAll x0 s).hlc.hunter = s.hlc.hunter ∧ (goneAll x0 s).hlc.lastByte =
    s.hlc.lastByte ∧ (goneAll x0 s).hlc.drain = s.hlc.drain ∧ (goneAll x0 s).slc = s.slc ∧ (goneAll
    x0 s).dpt = s.dpt ∧ (goneAll x0 s).tqm = s.tqm ∧ (goneAll x0 s).cfs.image = s.cfs.image ∧
    (goneAll x0 s).cfs.write = s.cfs.write ∧ (goneAll x0 s).cfs.working = s.cfs.working := 
  ⟨by simp [goneAll],
   by simp [goneAll],
   by simp [goneAll],
   by simp only [goneAll]; exact foldl_same (fun t : State => t.hlc.places) _ (by simp) _ _,
   by simp only [goneAll]; exact foldl_same (fun t : State => t.hlc.hunter) _ (by simp) _ _,
   by simp only [goneAll]; exact foldl_same (fun t : State => t.hlc.lastByte) _ (by simp) _ _,
   by simp only [goneAll]; exact foldl_same (fun t : State => t.hlc.drain) _ (by simp) _ _,
   by simp [goneAll],
   by simp [goneAll],
   by simp [goneAll],
   by simp only [goneAll]; exact foldl_same (fun t : State => t.cfs.image) _ (by simp) _ _,
   by simp only [goneAll]; exact foldl_same (fun t : State => t.cfs.write) _ (by simp) _ _,
   by simp only [goneAll]; exact foldl_same (fun t : State => t.cfs.working) _ (by simp) _ _⟩

@[simp] theorem leaveMotion_same (s : State) : (leaveMotion s).now = s.now ∧ (leaveMotion s).powered
    = s.powered ∧ (leaveMotion s).pending = s.pending ∧ (leaveMotion s).hlc.places = s.hlc.places ∧
    (leaveMotion s).hlc.hunter = s.hlc.hunter ∧ (leaveMotion s).hlc.lastByte = s.hlc.lastByte ∧
    (leaveMotion s).hlc.drain = s.hlc.drain ∧ (leaveMotion s).slc = s.slc ∧ (leaveMotion s).dpt =
    s.dpt ∧ (leaveMotion s).tqm = s.tqm ∧ (leaveMotion s).cfs.image = s.cfs.image ∧ (leaveMotion
    s).cfs.write = s.cfs.write ∧ (leaveMotion s).cfs.working = s.cfs.working := by
  refine ⟨?_, ?_, ?_, ?_, ?_, ?_, ?_, ?_, ?_, ?_, ?_, ?_, ?_⟩ <;> (simp [leaveMotion])

@[simp] theorem setPermit_same (x0 : Drum) (x1 : Bool) (s : State) : (setPermit x0 x1 s).now = s.now
    ∧ (setPermit x0 x1 s).powered = s.powered ∧ (setPermit x0 x1 s).pending = s.pending ∧ (setPermit
    x0 x1 s).hlc = s.hlc ∧ (setPermit x0 x1 s).slc = s.slc ∧ (setPermit x0 x1 s).pfu = s.pfu ∧
    (setPermit x0 x1 s).dpt = s.dpt ∧ (setPermit x0 x1 s).tqm = s.tqm ∧ (setPermit x0 x1 s).msq =
    s.msq ∧ (setPermit x0 x1 s).prt = s.prt ∧ (setPermit x0 x1 s).cfs = s.cfs := by
  refine ⟨?_, ?_, ?_, ?_, ?_, ?_, ?_, ?_, ?_, ?_, ?_⟩ <;> (simp [setPermit])

@[simp] theorem setWatch_same (x0 : Drum) (x1 : Watch) (s : State) : (setWatch x0 x1 s).now = s.now
    ∧ (setWatch x0 x1 s).powered = s.powered ∧ (setWatch x0 x1 s).pending = s.pending ∧ (setWatch x0
    x1 s).hlc = s.hlc ∧ (setWatch x0 x1 s).slc = s.slc ∧ (setWatch x0 x1 s).pfu = s.pfu ∧ (setWatch
    x0 x1 s).dpt = s.dpt ∧ (setWatch x0 x1 s).tqm = s.tqm ∧ (setWatch x0 x1 s).msq = s.msq ∧
    (setWatch x0 x1 s).prt = s.prt ∧ (setWatch x0 x1 s).cfs = s.cfs := by
  refine ⟨?_, ?_, ?_, ?_, ?_, ?_, ?_, ?_, ?_, ?_, ?_⟩ <;> (simp [setWatch])

@[simp] theorem onClutch_same (x0 : Drum) (x1 : Clutch → Clutch) (s : State) : (onClutch x0 x1
    s).now = s.now ∧ (onClutch x0 x1 s).powered = s.powered ∧ (onClutch x0 x1 s).pending = s.pending
    ∧ (onClutch x0 x1 s).hlc = s.hlc ∧ (onClutch x0 x1 s).slc = s.slc ∧ (onClutch x0 x1 s).pfu =
    s.pfu ∧ (onClutch x0 x1 s).dpt = s.dpt ∧ (onClutch x0 x1 s).tqm = s.tqm ∧ (onClutch x0 x1 s).msq
    = s.msq ∧ (onClutch x0 x1 s).prt = s.prt ∧ (onClutch x0 x1 s).cfs = s.cfs := by
  refine ⟨?_, ?_, ?_, ?_, ?_, ?_, ?_, ?_, ?_, ?_, ?_⟩ <;> (simp [onClutch])

@[simp] theorem setCommand_same (x0 : Drum) (x1 : Movement) (x2 : Bool) (s : State) : (setCommand x0
    x1 x2 s).now = s.now ∧ (setCommand x0 x1 x2 s).powered = s.powered ∧ (setCommand x0 x1 x2
    s).pending = s.pending ∧ (setCommand x0 x1 x2 s).hlc = s.hlc ∧ (setCommand x0 x1 x2 s).slc =
    s.slc ∧ (setCommand x0 x1 x2 s).pfu = s.pfu ∧ (setCommand x0 x1 x2 s).dpt = s.dpt ∧ (setCommand
    x0 x1 x2 s).tqm = s.tqm ∧ (setCommand x0 x1 x2 s).msq = s.msq ∧ (setCommand x0 x1 x2 s).prt =
    s.prt ∧ (setCommand x0 x1 x2 s).cfs = s.cfs := by
  refine ⟨?_, ?_, ?_, ?_, ?_, ?_, ?_, ?_, ?_, ?_, ?_⟩ <;> (simp [setCommand])

@[simp] theorem holdWatch_same (x0 : Drum) (s : State) : (holdWatch x0 s).now = s.now ∧ (holdWatch
    x0 s).powered = s.powered ∧ (holdWatch x0 s).pending = s.pending ∧ (holdWatch x0 s).hlc = s.hlc
    ∧ (holdWatch x0 s).slc = s.slc ∧ (holdWatch x0 s).pfu = s.pfu ∧ (holdWatch x0 s).dpt = s.dpt ∧
    (holdWatch x0 s).tqm = s.tqm ∧ (holdWatch x0 s).msq = s.msq ∧ (holdWatch x0 s).prt = s.prt ∧
    (holdWatch x0 s).cfs = s.cfs := by
  refine ⟨?_, ?_, ?_, ?_, ?_, ?_, ?_, ?_, ?_, ?_, ?_⟩ <;> (simp [holdWatch])

@[simp] theorem beginWatch_same (x0 : Drum) (s : State) : (beginWatch x0 s).now = s.now ∧
    (beginWatch x0 s).powered = s.powered ∧ (beginWatch x0 s).pending = s.pending ∧ (beginWatch x0
    s).hlc = s.hlc ∧ (beginWatch x0 s).slc = s.slc ∧ (beginWatch x0 s).pfu = s.pfu ∧ (beginWatch x0
    s).dpt = s.dpt ∧ (beginWatch x0 s).tqm = s.tqm ∧ (beginWatch x0 s).msq = s.msq ∧ (beginWatch x0
    s).prt = s.prt ∧ (beginWatch x0 s).cfs = s.cfs := by
  refine ⟨?_, ?_, ?_, ?_, ?_, ?_, ?_, ?_, ?_, ?_, ?_⟩ <;> (simp [beginWatch])

@[simp] theorem watchStandstill_same (x0 : Drum) (s : State) : (watchStandstill x0 s).now = s.now ∧
    (watchStandstill x0 s).powered = s.powered ∧ (watchStandstill x0 s).pending = s.pending ∧
    (watchStandstill x0 s).hlc = s.hlc ∧ (watchStandstill x0 s).slc = s.slc ∧ (watchStandstill x0
    s).pfu = s.pfu ∧ (watchStandstill x0 s).dpt = s.dpt ∧ (watchStandstill x0 s).tqm = s.tqm ∧
    (watchStandstill x0 s).msq = s.msq ∧ (watchStandstill x0 s).prt = s.prt ∧ (watchStandstill x0
    s).cfs = s.cfs := by
  refine ⟨?_, ?_, ?_, ?_, ?_, ?_, ?_, ?_, ?_, ?_, ?_⟩ <;> ((simp only [watchStandstill]; repeat' split) <;> simp)

@[simp] theorem assertDrv_same (s : State) : (assertDrv s).now = s.now ∧ (assertDrv s).powered =
    s.powered ∧ (assertDrv s).pending = s.pending ∧ (assertDrv s).hlc = s.hlc ∧ (assertDrv s).slc =
    s.slc ∧ (assertDrv s).pfu = s.pfu ∧ (assertDrv s).dpt = s.dpt ∧ (assertDrv s).tqm = s.tqm ∧
    (assertDrv s).msq = s.msq ∧ (assertDrv s).prt = s.prt ∧ (assertDrv s).cfs = s.cfs := by
  refine ⟨?_, ?_, ?_, ?_, ?_, ?_, ?_, ?_, ?_, ?_, ?_⟩ <;> (simp [assertDrv])

@[simp] theorem withdrawDrv_same (s : State) : (withdrawDrv s).now = s.now ∧ (withdrawDrv s).powered
    = s.powered ∧ (withdrawDrv s).pending = s.pending ∧ (withdrawDrv s).hlc = s.hlc ∧ (withdrawDrv
    s).slc = s.slc ∧ (withdrawDrv s).pfu = s.pfu ∧ (withdrawDrv s).dpt = s.dpt ∧ (withdrawDrv s).tqm
    = s.tqm ∧ (withdrawDrv s).msq = s.msq ∧ (withdrawDrv s).prt = s.prt ∧ (withdrawDrv s).cfs =
    s.cfs := by
  refine ⟨?_, ?_, ?_, ?_, ?_, ?_, ?_, ?_, ?_, ?_, ?_⟩ <;> (simp [withdrawDrv])

@[simp] theorem assertPermit_same (x0 : Drum) (s : State) : (assertPermit x0 s).now = s.now ∧
    (assertPermit x0 s).powered = s.powered ∧ (assertPermit x0 s).pending = s.pending ∧
    (assertPermit x0 s).hlc = s.hlc ∧ (assertPermit x0 s).slc = s.slc ∧ (assertPermit x0 s).pfu =
    s.pfu ∧ (assertPermit x0 s).dpt = s.dpt ∧ (assertPermit x0 s).tqm = s.tqm ∧ (assertPermit x0
    s).msq = s.msq ∧ (assertPermit x0 s).prt = s.prt ∧ (assertPermit x0 s).cfs = s.cfs := by
  refine ⟨?_, ?_, ?_, ?_, ?_, ?_, ?_, ?_, ?_, ?_, ?_⟩ <;> (simp [assertPermit])

@[simp] theorem withdrawPermit_same (x0 : Drum) (s : State) : (withdrawPermit x0 s).now = s.now ∧
    (withdrawPermit x0 s).powered = s.powered ∧ (withdrawPermit x0 s).pending = s.pending ∧
    (withdrawPermit x0 s).hlc = s.hlc ∧ (withdrawPermit x0 s).slc = s.slc ∧ (withdrawPermit x0
    s).pfu = s.pfu ∧ (withdrawPermit x0 s).dpt = s.dpt ∧ (withdrawPermit x0 s).tqm = s.tqm ∧
    (withdrawPermit x0 s).msq = s.msq ∧ (withdrawPermit x0 s).prt = s.prt ∧ (withdrawPermit x0
    s).cfs = s.cfs := by
  refine ⟨?_, ?_, ?_, ?_, ?_, ?_, ?_, ?_, ?_, ?_, ?_⟩ <;> (simp [withdrawPermit])

@[simp] theorem endMovement_same (x0 : Drum) (x1 : Movement) (x2 : ClutchState) (s : State) :
    (endMovement x0 x1 x2 s).now = s.now ∧ (endMovement x0 x1 x2 s).powered = s.powered ∧
    (endMovement x0 x1 x2 s).pending = s.pending ∧ (endMovement x0 x1 x2 s).hlc = s.hlc ∧
    (endMovement x0 x1 x2 s).slc = s.slc ∧ (endMovement x0 x1 x2 s).pfu = s.pfu ∧ (endMovement x0 x1
    x2 s).dpt = s.dpt ∧ (endMovement x0 x1 x2 s).tqm = s.tqm ∧ (endMovement x0 x1 x2 s).msq = s.msq
    ∧ (endMovement x0 x1 x2 s).prt = s.prt ∧ (endMovement x0 x1 x2 s).cfs = s.cfs := by
  refine ⟨?_, ?_, ?_, ?_, ?_, ?_, ?_, ?_, ?_, ?_, ?_⟩ <;> (simp [endMovement])

@[simp] theorem setChangeover_same (x0 : Option Changeover) (s : State) : (setChangeover x0 s).now =
    s.now ∧ (setChangeover x0 s).powered = s.powered ∧ (setChangeover x0 s).pending = s.pending ∧
    (setChangeover x0 s).hlc = s.hlc ∧ (setChangeover x0 s).slc = s.slc ∧ (setChangeover x0 s).pfu =
    s.pfu ∧ (setChangeover x0 s).dpt = s.dpt ∧ (setChangeover x0 s).tqm = s.tqm ∧ (setChangeover x0
    s).msq = s.msq ∧ (setChangeover x0 s).prt = s.prt ∧ (setChangeover x0 s).cfs = s.cfs := by
  refine ⟨?_, ?_, ?_, ?_, ?_, ?_, ?_, ?_, ?_, ?_, ?_⟩ <;> (simp [setChangeover])

@[simp] theorem releaseCommands_same (s : State) : (releaseCommands s).now = s.now ∧
    (releaseCommands s).powered = s.powered ∧ (releaseCommands s).pending = s.pending ∧
    (releaseCommands s).hlc = s.hlc ∧ (releaseCommands s).slc = s.slc ∧ (releaseCommands s).pfu =
    s.pfu ∧ (releaseCommands s).dpt = s.dpt ∧ (releaseCommands s).tqm = s.tqm ∧ (releaseCommands
    s).msq = s.msq ∧ (releaseCommands s).prt = s.prt ∧ (releaseCommands s).cfs = s.cfs := by
  refine ⟨?_, ?_, ?_, ?_, ?_, ?_, ?_, ?_, ?_, ?_, ?_⟩ <;> ((simp only [releaseCommands]; repeat' split) <;> simp)

@[simp] theorem startMovement_same (x0 : Drum) (x1 : Movement) (s : State) : (startMovement x0 x1
    s).now = s.now ∧ (startMovement x0 x1 s).powered = s.powered ∧ (startMovement x0 x1 s).pending =
    s.pending ∧ (startMovement x0 x1 s).hlc.places = s.hlc.places ∧ (startMovement x0 x1
    s).hlc.hunter = s.hlc.hunter ∧ (startMovement x0 x1 s).hlc.lastByte = s.hlc.lastByte ∧
    (startMovement x0 x1 s).hlc.drain = s.hlc.drain ∧ (startMovement x0 x1 s).slc = s.slc ∧
    (startMovement x0 x1 s).dpt = s.dpt ∧ (startMovement x0 x1 s).tqm = s.tqm ∧ (startMovement x0 x1
    s).cfs.image = s.cfs.image ∧ (startMovement x0 x1 s).cfs.write = s.cfs.write ∧ (startMovement x0
    x1 s).cfs.working = s.cfs.working := by
  refine ⟨?_, ?_, ?_, ?_, ?_, ?_, ?_, ?_, ?_, ?_, ?_, ?_, ?_⟩ <;> (simp [startMovement])

@[simp] theorem withdrawAll_same (s : State) : (withdrawAll s).now = s.now ∧ (withdrawAll s).powered
    = s.powered ∧ (withdrawAll s).pending = s.pending ∧ (withdrawAll s).hlc = s.hlc ∧ (withdrawAll
    s).slc = s.slc ∧ (withdrawAll s).pfu = s.pfu ∧ (withdrawAll s).dpt = s.dpt ∧ (withdrawAll s).tqm
    = s.tqm ∧ (withdrawAll s).msq = s.msq ∧ (withdrawAll s).prt = s.prt ∧ (withdrawAll s).cfs =
    s.cfs := by
  refine ⟨?_, ?_, ?_, ?_, ?_, ?_, ?_, ?_, ?_, ?_, ?_⟩ <;> (simp [withdrawAll])

end Sys2Proof.Machine
end

