-- ==== Sys2Proof/Laws/FramesRun.lean ====
section
/-! SUPPORT. Frames: what the operations of Path and Actions: raises, paths, runs and changeovers leave unchanged. -/

namespace Sys2Proof.Machine

set_option linter.unusedTactic false
set_option linter.unusedSimpArgs false
set_option linter.unnecessarySeqFocus false

theorem raiseWith_same {β : Type} (part : State → β) (act : Action → State → State)
    (hact : ∀ a s, part (act a s) = part s) (hprt : ∀ f s, part (State.onPrt f s) = part s)
    (hnote : ∀ n s, part (notify n s) = part s) (p : Protection) (n : Nat) (s : State) :
    part (raiseWith act p n s) = part s := by
  simp only [raiseWith, changeEntry, joinList, faultNotice, setEntries]
  repeat' split
  all_goals simp only [hact, hnote, hprt]

theorem presentWith_same {β : Type} (part : State → β) (act : Action → State → State)
    (hact : ∀ a s, part (act a s) = part s) (hprt : ∀ f s, part (State.onPrt f s) = part s)
    (hnote : ∀ n s, part (notify n s) = part s) (p : Protection) (n : Nat) (s : State) :
    part (presentWith act p n s) = part s := by
  simp only [presentWith]
  split
  · rfl
  · rw [raiseWith_same part act hact hprt hnote]; exact hprt _ _

theorem reportTest_same {β : Type} (part : State → β) (f : Protection → Nat → State → State)
    (hf : ∀ p n s, part (f p n s) = part s) (hgone : ∀ p n s, part (gone p n s) = part s)
    (p : Protection) (n : Nat) (b : Bool) (s : State) : part (reportTest f p n b s) = part s := by
  simp only [reportTest]; split <;> simp only [hf, hgone]

theorem testLost_same {β : Type} (part : State → β) (f : Protection → Nat → State → State)
    (hf : ∀ p n s, part (f p n s) = part s) (hgone : ∀ p n s, part (gone p n s) = part s)
    (s : State) : part (testLost f s) = part s := by
  simp only [testLost]
  exact foldl_same part _ (by intro st a; split; exact reportTest_same part f hf hgone _ _ _ _; rfl) _ _

theorem testGates_same {β : Type} (part : State → β) (f : Protection → Nat → State → State)
    (hf : ∀ p n s, part (f p n s) = part s) (hgone : ∀ p n s, part (gone p n s) = part s)
    (s : State) : part (testGates f s) = part s := by
  simp only [testGates]
  exact foldl_same part _ (by intro st a; exact reportTest_same part f hf hgone _ _ _ _) _ _

theorem recomputePath_same {β : Type} (part : State → β) (f : Protection → Nat → State → State)
    (hf : ∀ p n s, part (f p n s) = part s) (hgone : ∀ p n s, part (gone p n s) = part s)
    (hslc : ∀ f s, part (State.onSlc f s) = part s)
    (s : State) : part (recomputePath f s) = part s := by
  simp only [recomputePath]
  rw [testLost_same part f hf hgone, testGates_same part f hf hgone]
  simp only [writePath]; split <;> simp only [hslc]

@[simp] theorem onStation_same (x0 : Nat) (x1 : Station → Station) (s : State) : (onStation x0 x1
    s).now = s.now ∧ (onStation x0 x1 s).powered = s.powered ∧ (onStation x0 x1 s).pending =
    s.pending ∧ (onStation x0 x1 s).hlc = s.hlc ∧ (onStation x0 x1 s).pfu = s.pfu ∧ (onStation x0 x1
    s).dpt = s.dpt ∧ (onStation x0 x1 s).tqm = s.tqm ∧ (onStation x0 x1 s).msq = s.msq ∧ (onStation
    x0 x1 s).cpl = s.cpl ∧ (onStation x0 x1 s).prt = s.prt ∧ (onStation x0 x1 s).cfs = s.cfs := by
  refine ⟨?_, ?_, ?_, ?_, ?_, ?_, ?_, ?_, ?_, ?_, ?_⟩ <;> (simp [onStation])

@[simp] theorem writePath_same (s : State) : (writePath s).now = s.now ∧ (writePath s).powered =
    s.powered ∧ (writePath s).pending = s.pending ∧ (writePath s).hlc = s.hlc ∧ (writePath s).pfu =
    s.pfu ∧ (writePath s).dpt = s.dpt ∧ (writePath s).tqm = s.tqm ∧ (writePath s).msq = s.msq ∧
    (writePath s).cpl = s.cpl ∧ (writePath s).prt = s.prt ∧ (writePath s).cfs = s.cfs := by
  refine ⟨?_, ?_, ?_, ?_, ?_, ?_, ?_, ?_, ?_, ?_, ?_⟩ <;> ((simp only [writePath]; repeat' split) <;> simp)

@[simp] theorem joinList_same (x0 : FaultEntry) (x1 : Nat) (s : State) : (joinList x0 x1 s).now =
    s.now ∧ (joinList x0 x1 s).powered = s.powered ∧ (joinList x0 x1 s).pending = s.pending ∧
    (joinList x0 x1 s).hlc.places = s.hlc.places ∧ (joinList x0 x1 s).hlc.hunter = s.hlc.hunter ∧
    (joinList x0 x1 s).hlc.lastByte = s.hlc.lastByte ∧ (joinList x0 x1 s).hlc.drain = s.hlc.drain ∧
    (joinList x0 x1 s).slc = s.slc ∧ (joinList x0 x1 s).pfu = s.pfu ∧ (joinList x0 x1 s).dpt = s.dpt
    ∧ (joinList x0 x1 s).tqm = s.tqm ∧ (joinList x0 x1 s).msq = s.msq ∧ (joinList x0 x1 s).cpl =
    s.cpl ∧ (joinList x0 x1 s).cfs = s.cfs := by
  refine ⟨?_, ?_, ?_, ?_, ?_, ?_, ?_, ?_, ?_, ?_, ?_, ?_, ?_, ?_⟩ <;> (simp [joinList])

@[simp] theorem clampIfFirst_same (s : State) : (clampIfFirst s).now = s.now ∧ (clampIfFirst
    s).powered = s.powered ∧ (clampIfFirst s).pending = s.pending ∧ (clampIfFirst s).hlc.places =
    s.hlc.places ∧ (clampIfFirst s).hlc.hunter = s.hlc.hunter ∧ (clampIfFirst s).hlc.lastByte =
    s.hlc.lastByte ∧ (clampIfFirst s).hlc.drain = s.hlc.drain ∧ (clampIfFirst s).slc = s.slc ∧
    (clampIfFirst s).pfu = s.pfu ∧ (clampIfFirst s).dpt = s.dpt ∧ (clampIfFirst s).tqm = s.tqm ∧
    (clampIfFirst s).cpl = s.cpl ∧ (clampIfFirst s).prt = s.prt ∧ (clampIfFirst s).cfs = s.cfs := by
  refine ⟨?_, ?_, ?_, ?_, ?_, ?_, ?_, ?_, ?_, ?_, ?_, ?_, ?_, ?_⟩ <;> first
    | ((simp [clampIfFirst]); done)
    | (((simp only [clampIfFirst]; repeat' split) <;> simp); done)

@[simp] theorem actDeparting_same (x0 : Action) (s : State) : (actDeparting x0 s).now = s.now ∧
    (actDeparting x0 s).powered = s.powered ∧ (actDeparting x0 s).pending = s.pending ∧
    (actDeparting x0 s).hlc.places = s.hlc.places ∧ (actDeparting x0 s).hlc.hunter = s.hlc.hunter ∧
    (actDeparting x0 s).hlc.lastByte = s.hlc.lastByte ∧ (actDeparting x0 s).hlc.drain = s.hlc.drain
    ∧ (actDeparting x0 s).slc = s.slc ∧ (actDeparting x0 s).pfu = s.pfu ∧ (actDeparting x0 s).dpt =
    s.dpt ∧ (actDeparting x0 s).tqm = s.tqm ∧ (actDeparting x0 s).prt = s.prt ∧ (actDeparting x0
    s).cfs = s.cfs := by
  refine ⟨?_, ?_, ?_, ?_, ?_, ?_, ?_, ?_, ?_, ?_, ?_, ?_, ?_⟩ <;> ((simp only [actDeparting]; repeat' split) <;> simp)

@[simp] theorem departPath_same (s : State) : (departPath s).now = s.now ∧ (departPath s).powered =
    s.powered ∧ (departPath s).pending = s.pending ∧ (departPath s).hlc.places = s.hlc.places ∧
    (departPath s).hlc.hunter = s.hlc.hunter ∧ (departPath s).hlc.lastByte = s.hlc.lastByte ∧
    (departPath s).hlc.drain = s.hlc.drain ∧ (departPath s).dpt = s.dpt ∧ (departPath s).tqm = s.tqm
    ∧ (departPath s).cfs.image = s.cfs.image ∧ (departPath s).cfs.write = s.cfs.write ∧ (departPath
    s).cfs.working = s.cfs.working := 
  ⟨by exact recomputePath_same (fun t : State => t.now) _ (presentWith_same (fun t : State => t.now) _ (by simp) (by simp) (by simp)) (by simp) (by simp) _,
   by exact recomputePath_same (fun t : State => t.powered) _ (presentWith_same (fun t : State => t.powered) _ (by simp) (by simp) (by simp)) (by simp) (by simp) _,
   by exact recomputePath_same (fun t : State => t.pending) _ (presentWith_same (fun t : State => t.pending) _ (by simp) (by simp) (by simp)) (by simp) (by simp) _,
   by exact recomputePath_same (fun t : State => t.hlc.places) _ (presentWith_same (fun t : State => t.hlc.places) _ (by simp) (by simp) (by simp)) (by simp) (by simp) _,
   by exact recomputePath_same (fun t : State => t.hlc.hunter) _ (presentWith_same (fun t : State => t.hlc.hunter) _ (by simp) (by simp) (by simp)) (by simp) (by simp) _,
   by exact recomputePath_same (fun t : State => t.hlc.lastByte) _ (presentWith_same (fun t : State => t.hlc.lastByte) _ (by simp) (by simp) (by simp)) (by simp) (by simp) _,
   by exact recomputePath_same (fun t : State => t.hlc.drain) _ (presentWith_same (fun t : State => t.hlc.drain) _ (by simp) (by simp) (by simp)) (by simp) (by simp) _,
   by exact recomputePath_same (fun t : State => t.dpt) _ (presentWith_same (fun t : State => t.dpt) _ (by simp) (by simp) (by simp)) (by simp) (by simp) _,
   by exact recomputePath_same (fun t : State => t.tqm) _ (presentWith_same (fun t : State => t.tqm) _ (by simp) (by simp) (by simp)) (by simp) (by simp) _,
   by exact recomputePath_same (fun t : State => t.cfs.image) _ (presentWith_same (fun t : State => t.cfs.image) _ (by simp) (by simp) (by simp)) (by simp) (by simp) _,
   by exact recomputePath_same (fun t : State => t.cfs.write) _ (presentWith_same (fun t : State => t.cfs.write) _ (by simp) (by simp) (by simp)) (by simp) (by simp) _,
   by exact recomputePath_same (fun t : State => t.cfs.working) _ (presentWith_same (fun t : State => t.cfs.working) _ (by simp) (by simp) (by simp)) (by simp) (by simp) _⟩

@[simp] theorem suspendCurrent_same (s : State) : (suspendCurrent s).now = s.now ∧ (suspendCurrent
    s).powered = s.powered ∧ (suspendCurrent s).pending = s.pending ∧ (suspendCurrent s).hlc.places
    = s.hlc.places ∧ (suspendCurrent s).hlc.hunter = s.hlc.hunter ∧ (suspendCurrent s).hlc.lastByte
    = s.hlc.lastByte ∧ (suspendCurrent s).hlc.drain = s.hlc.drain ∧ (suspendCurrent s).dpt = s.dpt ∧
    (suspendCurrent s).tqm.originCage = s.tqm.originCage ∧ (suspendCurrent s).tqm.originSkip =
    s.tqm.originSkip ∧ (suspendCurrent s).tqm.lastId = s.tqm.lastId ∧ (suspendCurrent s).cfs.image =
    s.cfs.image ∧ (suspendCurrent s).cfs.write = s.cfs.write ∧ (suspendCurrent s).cfs.working =
    s.cfs.working := by
  refine ⟨?_, ?_, ?_, ?_, ?_, ?_, ?_, ?_, ?_, ?_, ?_, ?_, ?_, ?_⟩ <;> ((simp only [suspendCurrent]; repeat' split) <;> simp)

@[simp] theorem endCurrent_same (x0 : TripEnd) (s : State) : (endCurrent x0 s).now = s.now ∧
    (endCurrent x0 s).powered = s.powered ∧ (endCurrent x0 s).pending = s.pending ∧ (endCurrent x0
    s).hlc.places = s.hlc.places ∧ (endCurrent x0 s).hlc.hunter = s.hlc.hunter ∧ (endCurrent x0
    s).hlc.lastByte = s.hlc.lastByte ∧ (endCurrent x0 s).hlc.drain = s.hlc.drain ∧ (endCurrent x0
    s).dpt = s.dpt ∧ (endCurrent x0 s).tqm.originCage = s.tqm.originCage ∧ (endCurrent x0
    s).tqm.originSkip = s.tqm.originSkip ∧ (endCurrent x0 s).tqm.lastId = s.tqm.lastId ∧ (endCurrent
    x0 s).cfs.image = s.cfs.image ∧ (endCurrent x0 s).cfs.write = s.cfs.write ∧ (endCurrent x0
    s).cfs.working = s.cfs.working := by
  refine ⟨?_, ?_, ?_, ?_, ?_, ?_, ?_, ?_, ?_, ?_, ?_, ?_, ?_, ?_⟩ <;> ((simp only [endCurrent]; repeat' split) <;> simp)

@[simp] theorem tripWinder_same (s : State) : (tripWinder s).now = s.now ∧ (tripWinder s).powered =
    s.powered ∧ (tripWinder s).pending = s.pending ∧ (tripWinder s).hlc.places = s.hlc.places ∧
    (tripWinder s).hlc.hunter = s.hlc.hunter ∧ (tripWinder s).hlc.lastByte = s.hlc.lastByte ∧
    (tripWinder s).hlc.drain = s.hlc.drain ∧ (tripWinder s).dpt = s.dpt ∧ (tripWinder
    s).tqm.originCage = s.tqm.originCage ∧ (tripWinder s).tqm.originSkip = s.tqm.originSkip ∧
    (tripWinder s).tqm.lastId = s.tqm.lastId ∧ (tripWinder s).cfs.image = s.cfs.image ∧ (tripWinder
    s).cfs.write = s.cfs.write ∧ (tripWinder s).cfs.working = s.cfs.working := by
  refine ⟨?_, ?_, ?_, ?_, ?_, ?_, ?_, ?_, ?_, ?_, ?_, ?_, ?_, ?_⟩ <;> (simp [tripWinder])

@[simp] theorem emergencyAction_same (s : State) : (emergencyAction s).now = s.now ∧
    (emergencyAction s).powered = s.powered ∧ (emergencyAction s).pending = s.pending ∧
    (emergencyAction s).hlc.places = s.hlc.places ∧ (emergencyAction s).hlc.hunter = s.hlc.hunter ∧
    (emergencyAction s).hlc.lastByte = s.hlc.lastByte ∧ (emergencyAction s).hlc.drain = s.hlc.drain
    ∧ (emergencyAction s).dpt = s.dpt ∧ (emergencyAction s).tqm.originCage = s.tqm.originCage ∧
    (emergencyAction s).tqm.originSkip = s.tqm.originSkip ∧ (emergencyAction s).tqm.lastId =
    s.tqm.lastId ∧ (emergencyAction s).cfs.image = s.cfs.image ∧ (emergencyAction s).cfs.write =
    s.cfs.write ∧ (emergencyAction s).cfs.working = s.cfs.working := by
  refine ⟨?_, ?_, ?_, ?_, ?_, ?_, ?_, ?_, ?_, ?_, ?_, ?_, ?_, ?_⟩ <;> ((simp only [emergencyAction]; repeat' split) <;> simp)

@[simp] theorem tripIfEmergency_same (s : State) : (tripIfEmergency s).now = s.now ∧
    (tripIfEmergency s).powered = s.powered ∧ (tripIfEmergency s).pending = s.pending ∧
    (tripIfEmergency s).hlc.places = s.hlc.places ∧ (tripIfEmergency s).hlc.hunter = s.hlc.hunter ∧
    (tripIfEmergency s).hlc.lastByte = s.hlc.lastByte ∧ (tripIfEmergency s).hlc.drain = s.hlc.drain
    ∧ (tripIfEmergency s).dpt = s.dpt ∧ (tripIfEmergency s).tqm.originCage = s.tqm.originCage ∧
    (tripIfEmergency s).tqm.originSkip = s.tqm.originSkip ∧ (tripIfEmergency s).tqm.lastId =
    s.tqm.lastId ∧ (tripIfEmergency s).cfs.image = s.cfs.image ∧ (tripIfEmergency s).cfs.write =
    s.cfs.write ∧ (tripIfEmergency s).cfs.working = s.cfs.working := by
  refine ⟨?_, ?_, ?_, ?_, ?_, ?_, ?_, ?_, ?_, ?_, ?_, ?_, ?_, ?_⟩ <;> ((simp only [tripIfEmergency]; split) <;> simp)

@[simp] theorem suspendNow_same (x0 : WinderCause) (s : State) : (suspendNow x0 s).now = s.now ∧
    (suspendNow x0 s).powered = s.powered ∧ (suspendNow x0 s).pending = s.pending ∧ (suspendNow x0
    s).hlc.places = s.hlc.places ∧ (suspendNow x0 s).hlc.hunter = s.hlc.hunter ∧ (suspendNow x0
    s).hlc.lastByte = s.hlc.lastByte ∧ (suspendNow x0 s).hlc.drain = s.hlc.drain ∧ (suspendNow x0
    s).dpt = s.dpt ∧ (suspendNow x0 s).tqm.originCage = s.tqm.originCage ∧ (suspendNow x0
    s).tqm.originSkip = s.tqm.originSkip ∧ (suspendNow x0 s).tqm.lastId = s.tqm.lastId ∧ (suspendNow
    x0 s).cfs.image = s.cfs.image ∧ (suspendNow x0 s).cfs.write = s.cfs.write ∧ (suspendNow x0
    s).cfs.working = s.cfs.working := by
  refine ⟨?_, ?_, ?_, ?_, ?_, ?_, ?_, ?_, ?_, ?_, ?_, ?_, ?_, ?_⟩ <;> (simp [suspendNow])

@[simp] theorem endRun_same (x0 : TripEnd) (s : State) : (endRun x0 s).now = s.now ∧ (endRun x0
    s).powered = s.powered ∧ (endRun x0 s).pending = s.pending ∧ (endRun x0 s).hlc.places =
    s.hlc.places ∧ (endRun x0 s).hlc.hunter = s.hlc.hunter ∧ (endRun x0 s).hlc.lastByte =
    s.hlc.lastByte ∧ (endRun x0 s).hlc.drain = s.hlc.drain ∧ (endRun x0 s).dpt = s.dpt ∧ (endRun x0
    s).tqm.originCage = s.tqm.originCage ∧ (endRun x0 s).tqm.originSkip = s.tqm.originSkip ∧ (endRun
    x0 s).tqm.lastId = s.tqm.lastId ∧ (endRun x0 s).cfs.image = s.cfs.image ∧ (endRun x0
    s).cfs.write = s.cfs.write ∧ (endRun x0 s).cfs.working = s.cfs.working := by
  refine ⟨?_, ?_, ?_, ?_, ?_, ?_, ?_, ?_, ?_, ?_, ?_, ?_, ?_, ?_⟩ <;> (simp [endRun])

@[simp] theorem beginSettling_same (x0 : Drum) (x1 : SettleEnd) (x2 : WinderCause) (s : State) :
    (beginSettling x0 x1 x2 s).now = s.now ∧ (beginSettling x0 x1 x2 s).powered = s.powered ∧
    (beginSettling x0 x1 x2 s).pending = s.pending ∧ (beginSettling x0 x1 x2 s).hlc.places =
    s.hlc.places ∧ (beginSettling x0 x1 x2 s).hlc.hunter = s.hlc.hunter ∧ (beginSettling x0 x1 x2
    s).hlc.lastByte = s.hlc.lastByte ∧ (beginSettling x0 x1 x2 s).hlc.drain = s.hlc.drain ∧
    (beginSettling x0 x1 x2 s).slc = s.slc ∧ (beginSettling x0 x1 x2 s).pfu = s.pfu ∧ (beginSettling
    x0 x1 x2 s).dpt = s.dpt ∧ (beginSettling x0 x1 x2 s).tqm = s.tqm ∧ (beginSettling x0 x1 x2
    s).prt = s.prt ∧ (beginSettling x0 x1 x2 s).cfs = s.cfs := by
  refine ⟨?_, ?_, ?_, ?_, ?_, ?_, ?_, ?_, ?_, ?_, ?_, ?_, ?_⟩ <;> (simp [beginSettling])

@[simp] theorem beginSetting_same (x0 : Drum) (s : State) : (beginSetting x0 s).now = s.now ∧
    (beginSetting x0 s).powered = s.powered ∧ (beginSetting x0 s).pending = s.pending ∧
    (beginSetting x0 s).hlc.places = s.hlc.places ∧ (beginSetting x0 s).hlc.hunter = s.hlc.hunter ∧
    (beginSetting x0 s).hlc.lastByte = s.hlc.lastByte ∧ (beginSetting x0 s).hlc.drain = s.hlc.drain
    ∧ (beginSetting x0 s).slc = s.slc ∧ (beginSetting x0 s).pfu = s.pfu ∧ (beginSetting x0 s).dpt =
    s.dpt ∧ (beginSetting x0 s).tqm = s.tqm ∧ (beginSetting x0 s).prt = s.prt ∧ (beginSetting x0
    s).cfs = s.cfs := by
  refine ⟨?_, ?_, ?_, ?_, ?_, ?_, ?_, ?_, ?_, ?_, ?_, ?_, ?_⟩ <;> (simp [beginSetting])

@[simp] theorem setStep_same (x0 : Nat) (x1 : Nat) (s : State) : (setStep x0 x1 s).now = s.now ∧
    (setStep x0 x1 s).powered = s.powered ∧ (setStep x0 x1 s).pending = s.pending ∧ (setStep x0 x1
    s).hlc = s.hlc ∧ (setStep x0 x1 s).slc = s.slc ∧ (setStep x0 x1 s).pfu = s.pfu ∧ (setStep x0 x1
    s).dpt = s.dpt ∧ (setStep x0 x1 s).tqm.originCage = s.tqm.originCage ∧ (setStep x0 x1
    s).tqm.originSkip = s.tqm.originSkip ∧ (setStep x0 x1 s).tqm.lastId = s.tqm.lastId ∧ (setStep x0
    x1 s).msq = s.msq ∧ (setStep x0 x1 s).cpl = s.cpl ∧ (setStep x0 x1 s).prt = s.prt ∧ (setStep x0
    x1 s).cfs = s.cfs := by
  refine ⟨?_, ?_, ?_, ?_, ?_, ?_, ?_, ?_, ?_, ?_, ?_, ?_, ?_, ?_⟩ <;> (simp [setStep])

@[simp] theorem reverseSearch_same (x0 : Trip) (s : State) : (reverseSearch x0 s).now = s.now ∧
    (reverseSearch x0 s).powered = s.powered ∧ (reverseSearch x0 s).pending = s.pending ∧
    (reverseSearch x0 s).hlc.places = s.hlc.places ∧ (reverseSearch x0 s).hlc.hunter = s.hlc.hunter
    ∧ (reverseSearch x0 s).hlc.lastByte = s.hlc.lastByte ∧ (reverseSearch x0 s).hlc.drain =
    s.hlc.drain ∧ (reverseSearch x0 s).slc = s.slc ∧ (reverseSearch x0 s).pfu = s.pfu ∧
    (reverseSearch x0 s).dpt = s.dpt ∧ (reverseSearch x0 s).tqm.originCage = s.tqm.originCage ∧
    (reverseSearch x0 s).tqm.originSkip = s.tqm.originSkip ∧ (reverseSearch x0 s).tqm.lastId =
    s.tqm.lastId ∧ (reverseSearch x0 s).cpl = s.cpl ∧ (reverseSearch x0 s).prt = s.prt ∧
    (reverseSearch x0 s).cfs = s.cfs := by
  refine ⟨?_, ?_, ?_, ?_, ?_, ?_, ?_, ?_, ?_, ?_, ?_, ?_, ?_, ?_, ?_, ?_⟩ <;> (simp [reverseSearch])

@[simp] theorem stopStands_same (s : State) : (stopStands s).now = s.now ∧ (stopStands s).powered =
    s.powered ∧ (stopStands s).pending = s.pending ∧ (stopStands s).hlc.places = s.hlc.places ∧
    (stopStands s).hlc.hunter = s.hlc.hunter ∧ (stopStands s).hlc.lastByte = s.hlc.lastByte ∧
    (stopStands s).hlc.drain = s.hlc.drain ∧ (stopStands s).slc = s.slc ∧ (stopStands s).pfu = s.pfu
    ∧ (stopStands s).dpt = s.dpt ∧ (stopStands s).tqm.originCage = s.tqm.originCage ∧ (stopStands
    s).tqm.originSkip = s.tqm.originSkip ∧ (stopStands s).tqm.lastId = s.tqm.lastId ∧ (stopStands
    s).prt = s.prt ∧ (stopStands s).cfs = s.cfs := by
  refine ⟨?_, ?_, ?_, ?_, ?_, ?_, ?_, ?_, ?_, ?_, ?_, ?_, ?_, ?_, ?_⟩ <;> ((simp only [stopStands]; repeat' split) <;> simp)

@[simp] theorem movingStands.arrive_same (x0 : Trip) (s : State) : (movingStands.arrive x0 s).now =
    s.now ∧ (movingStands.arrive x0 s).powered = s.powered ∧ (movingStands.arrive x0 s).pending =
    s.pending ∧ (movingStands.arrive x0 s).hlc.places = s.hlc.places ∧ (movingStands.arrive x0
    s).hlc.hunter = s.hlc.hunter ∧ (movingStands.arrive x0 s).hlc.lastByte = s.hlc.lastByte ∧
    (movingStands.arrive x0 s).hlc.drain = s.hlc.drain ∧ (movingStands.arrive x0 s).slc = s.slc ∧
    (movingStands.arrive x0 s).pfu = s.pfu ∧ (movingStands.arrive x0 s).dpt = s.dpt ∧
    (movingStands.arrive x0 s).tqm = s.tqm ∧ (movingStands.arrive x0 s).prt = s.prt ∧
    (movingStands.arrive x0 s).cfs = s.cfs := by
  refine ⟨?_, ?_, ?_, ?_, ?_, ?_, ?_, ?_, ?_, ?_, ?_, ?_, ?_⟩ <;> first
    | ((simp [movingStands.arrive]); done)
    | (((simp only [movingStands.arrive]; repeat' split) <;> simp); done)

@[simp] theorem movingStands_same (x0 : Bool) (s : State) : (movingStands x0 s).now = s.now ∧
    (movingStands x0 s).powered = s.powered ∧ (movingStands x0 s).pending = s.pending ∧
    (movingStands x0 s).hlc.places = s.hlc.places ∧ (movingStands x0 s).hlc.hunter = s.hlc.hunter ∧
    (movingStands x0 s).hlc.lastByte = s.hlc.lastByte ∧ (movingStands x0 s).hlc.drain = s.hlc.drain
    ∧ (movingStands x0 s).slc = s.slc ∧ (movingStands x0 s).pfu = s.pfu ∧ (movingStands x0 s).dpt =
    s.dpt ∧ (movingStands x0 s).tqm.originCage = s.tqm.originCage ∧ (movingStands x0
    s).tqm.originSkip = s.tqm.originSkip ∧ (movingStands x0 s).tqm.lastId = s.tqm.lastId ∧
    (movingStands x0 s).prt = s.prt ∧ (movingStands x0 s).cfs = s.cfs := by
  refine ⟨?_, ?_, ?_, ?_, ?_, ?_, ?_, ?_, ?_, ?_, ?_, ?_, ?_, ?_, ?_⟩ <;> ((simp only [movingStands]; repeat' split) <;> simp)

@[simp] theorem beginStop_same (x0 : WinderCause) (s : State) : (beginStop x0 s).now = s.now ∧
    (beginStop x0 s).powered = s.powered ∧ (beginStop x0 s).pending = s.pending ∧ (beginStop x0
    s).hlc.places = s.hlc.places ∧ (beginStop x0 s).hlc.hunter = s.hlc.hunter ∧ (beginStop x0
    s).hlc.lastByte = s.hlc.lastByte ∧ (beginStop x0 s).hlc.drain = s.hlc.drain ∧ (beginStop x0
    s).slc = s.slc ∧ (beginStop x0 s).pfu = s.pfu ∧ (beginStop x0 s).dpt = s.dpt ∧ (beginStop x0
    s).tqm.originCage = s.tqm.originCage ∧ (beginStop x0 s).tqm.originSkip = s.tqm.originSkip ∧
    (beginStop x0 s).tqm.lastId = s.tqm.lastId ∧ (beginStop x0 s).prt = s.prt ∧ (beginStop x0 s).cfs
    = s.cfs := by
  refine ⟨?_, ?_, ?_, ?_, ?_, ?_, ?_, ?_, ?_, ?_, ?_, ?_, ?_, ?_, ?_⟩ <;> ((simp only [beginStop]; repeat' split) <;> simp)

@[simp] theorem stopAtOnce_same (x0 : WinderCause) (s : State) : (stopAtOnce x0 s).now = s.now ∧
    (stopAtOnce x0 s).powered = s.powered ∧ (stopAtOnce x0 s).pending = s.pending ∧ (stopAtOnce x0
    s).hlc.places = s.hlc.places ∧ (stopAtOnce x0 s).hlc.hunter = s.hlc.hunter ∧ (stopAtOnce x0
    s).hlc.lastByte = s.hlc.lastByte ∧ (stopAtOnce x0 s).hlc.drain = s.hlc.drain ∧ (stopAtOnce x0
    s).dpt = s.dpt ∧ (stopAtOnce x0 s).tqm.originCage = s.tqm.originCage ∧ (stopAtOnce x0
    s).tqm.originSkip = s.tqm.originSkip ∧ (stopAtOnce x0 s).tqm.lastId = s.tqm.lastId ∧ (stopAtOnce
    x0 s).cfs.image = s.cfs.image ∧ (stopAtOnce x0 s).cfs.write = s.cfs.write ∧ (stopAtOnce x0
    s).cfs.working = s.cfs.working := by
  refine ⟨?_, ?_, ?_, ?_, ?_, ?_, ?_, ?_, ?_, ?_, ?_, ?_, ?_, ?_⟩ <;> ((simp only [stopAtOnce]; split) <;> simp)

@[simp] theorem stopRun_same (x0 : WinderCause) (s : State) : (stopRun x0 s).now = s.now ∧ (stopRun
    x0 s).powered = s.powered ∧ (stopRun x0 s).pending = s.pending ∧ (stopRun x0 s).hlc.places =
    s.hlc.places ∧ (stopRun x0 s).hlc.hunter = s.hlc.hunter ∧ (stopRun x0 s).hlc.lastByte =
    s.hlc.lastByte ∧ (stopRun x0 s).hlc.drain = s.hlc.drain ∧ (stopRun x0 s).dpt = s.dpt ∧ (stopRun
    x0 s).tqm.originCage = s.tqm.originCage ∧ (stopRun x0 s).tqm.originSkip = s.tqm.originSkip ∧
    (stopRun x0 s).tqm.lastId = s.tqm.lastId ∧ (stopRun x0 s).cfs.image = s.cfs.image ∧ (stopRun x0
    s).cfs.write = s.cfs.write ∧ (stopRun x0 s).cfs.working = s.cfs.working := by
  refine ⟨?_, ?_, ?_, ?_, ?_, ?_, ?_, ?_, ?_, ?_, ?_, ?_, ?_, ?_⟩ <;> ((simp only [stopRun]; repeat' split) <;> simp)

@[simp] theorem applyAction_same (x0 : Action) (s : State) : (applyAction x0 s).now = s.now ∧
    (applyAction x0 s).powered = s.powered ∧ (applyAction x0 s).pending = s.pending ∧ (applyAction
    x0 s).hlc.places = s.hlc.places ∧ (applyAction x0 s).hlc.hunter = s.hlc.hunter ∧ (applyAction x0
    s).hlc.lastByte = s.hlc.lastByte ∧ (applyAction x0 s).hlc.drain = s.hlc.drain ∧ (applyAction x0
    s).dpt = s.dpt ∧ (applyAction x0 s).tqm.originCage = s.tqm.originCage ∧ (applyAction x0
    s).tqm.originSkip = s.tqm.originSkip ∧ (applyAction x0 s).tqm.lastId = s.tqm.lastId ∧
    (applyAction x0 s).cfs.image = s.cfs.image ∧ (applyAction x0 s).cfs.write = s.cfs.write ∧
    (applyAction x0 s).cfs.working = s.cfs.working := by
  refine ⟨?_, ?_, ?_, ?_, ?_, ?_, ?_, ?_, ?_, ?_, ?_, ?_, ?_, ?_⟩ <;> ((simp only [applyAction]; repeat' split) <;> simp)

@[simp] theorem raise_same (x0 : Protection) (x1 : Nat) (s : State) : (raise x0 x1 s).now = s.now ∧
    (raise x0 x1 s).powered = s.powered ∧ (raise x0 x1 s).pending = s.pending ∧ (raise x0 x1
    s).hlc.places = s.hlc.places ∧ (raise x0 x1 s).hlc.hunter = s.hlc.hunter ∧ (raise x0 x1
    s).hlc.lastByte = s.hlc.lastByte ∧ (raise x0 x1 s).hlc.drain = s.hlc.drain ∧ (raise x0 x1 s).dpt
    = s.dpt ∧ (raise x0 x1 s).tqm.originCage = s.tqm.originCage ∧ (raise x0 x1 s).tqm.originSkip =
    s.tqm.originSkip ∧ (raise x0 x1 s).tqm.lastId = s.tqm.lastId ∧ (raise x0 x1 s).cfs.image =
    s.cfs.image ∧ (raise x0 x1 s).cfs.write = s.cfs.write ∧ (raise x0 x1 s).cfs.working =
    s.cfs.working := 
  ⟨by exact raiseWith_same (fun t : State => t.now) _ (by simp) (by simp) (by simp) _ _ _,
   by exact raiseWith_same (fun t : State => t.powered) _ (by simp) (by simp) (by simp) _ _ _,
   by exact raiseWith_same (fun t : State => t.pending) _ (by simp) (by simp) (by simp) _ _ _,
   by exact raiseWith_same (fun t : State => t.hlc.places) _ (by simp) (by simp) (by simp) _ _ _,
   by exact raiseWith_same (fun t : State => t.hlc.hunter) _ (by simp) (by simp) (by simp) _ _ _,
   by exact raiseWith_same (fun t : State => t.hlc.lastByte) _ (by simp) (by simp) (by simp) _ _ _,
   by exact raiseWith_same (fun t : State => t.hlc.drain) _ (by simp) (by simp) (by simp) _ _ _,
   by exact raiseWith_same (fun t : State => t.dpt) _ (by simp) (by simp) (by simp) _ _ _,
   by exact raiseWith_same (fun t : State => t.tqm.originCage) _ (by simp) (by simp) (by simp) _ _ _,
   by exact raiseWith_same (fun t : State => t.tqm.originSkip) _ (by simp) (by simp) (by simp) _ _ _,
   by exact raiseWith_same (fun t : State => t.tqm.lastId) _ (by simp) (by simp) (by simp) _ _ _,
   by exact raiseWith_same (fun t : State => t.cfs.image) _ (by simp) (by simp) (by simp) _ _ _,
   by exact raiseWith_same (fun t : State => t.cfs.write) _ (by simp) (by simp) (by simp) _ _ _,
   by exact raiseWith_same (fun t : State => t.cfs.working) _ (by simp) (by simp) (by simp) _ _ _⟩

@[simp] theorem present_same (x0 : Protection) (x1 : Nat) (s : State) : (present x0 x1 s).now =
    s.now ∧ (present x0 x1 s).powered = s.powered ∧ (present x0 x1 s).pending = s.pending ∧ (present
    x0 x1 s).hlc.places = s.hlc.places ∧ (present x0 x1 s).hlc.hunter = s.hlc.hunter ∧ (present x0
    x1 s).hlc.lastByte = s.hlc.lastByte ∧ (present x0 x1 s).hlc.drain = s.hlc.drain ∧ (present x0 x1
    s).dpt = s.dpt ∧ (present x0 x1 s).tqm.originCage = s.tqm.originCage ∧ (present x0 x1
    s).tqm.originSkip = s.tqm.originSkip ∧ (present x0 x1 s).tqm.lastId = s.tqm.lastId ∧ (present x0
    x1 s).cfs.image = s.cfs.image ∧ (present x0 x1 s).cfs.write = s.cfs.write ∧ (present x0 x1
    s).cfs.working = s.cfs.working := 
  ⟨by exact presentWith_same (fun t : State => t.now) _ (by simp) (by simp) (by simp) _ _ _,
   by exact presentWith_same (fun t : State => t.powered) _ (by simp) (by simp) (by simp) _ _ _,
   by exact presentWith_same (fun t : State => t.pending) _ (by simp) (by simp) (by simp) _ _ _,
   by exact presentWith_same (fun t : State => t.hlc.places) _ (by simp) (by simp) (by simp) _ _ _,
   by exact presentWith_same (fun t : State => t.hlc.hunter) _ (by simp) (by simp) (by simp) _ _ _,
   by exact presentWith_same (fun t : State => t.hlc.lastByte) _ (by simp) (by simp) (by simp) _ _ _,
   by exact presentWith_same (fun t : State => t.hlc.drain) _ (by simp) (by simp) (by simp) _ _ _,
   by exact presentWith_same (fun t : State => t.dpt) _ (by simp) (by simp) (by simp) _ _ _,
   by exact presentWith_same (fun t : State => t.tqm.originCage) _ (by simp) (by simp) (by simp) _ _ _,
   by exact presentWith_same (fun t : State => t.tqm.originSkip) _ (by simp) (by simp) (by simp) _ _ _,
   by exact presentWith_same (fun t : State => t.tqm.lastId) _ (by simp) (by simp) (by simp) _ _ _,
   by exact presentWith_same (fun t : State => t.cfs.image) _ (by simp) (by simp) (by simp) _ _ _,
   by exact presentWith_same (fun t : State => t.cfs.write) _ (by simp) (by simp) (by simp) _ _ _,
   by exact presentWith_same (fun t : State => t.cfs.working) _ (by simp) (by simp) (by simp) _ _ _⟩

@[simp] theorem runPath_same (s : State) : (runPath s).now = s.now ∧ (runPath s).powered = s.powered
    ∧ (runPath s).pending = s.pending ∧ (runPath s).hlc.places = s.hlc.places ∧ (runPath
    s).hlc.hunter = s.hlc.hunter ∧ (runPath s).hlc.lastByte = s.hlc.lastByte ∧ (runPath s).hlc.drain
    = s.hlc.drain ∧ (runPath s).dpt = s.dpt ∧ (runPath s).tqm.originCage = s.tqm.originCage ∧
    (runPath s).tqm.originSkip = s.tqm.originSkip ∧ (runPath s).tqm.lastId = s.tqm.lastId ∧ (runPath
    s).cfs.image = s.cfs.image ∧ (runPath s).cfs.write = s.cfs.write ∧ (runPath s).cfs.working =
    s.cfs.working := 
  ⟨by exact recomputePath_same (fun t : State => t.now) _ (by simp) (by simp) (by simp) _,
   by exact recomputePath_same (fun t : State => t.powered) _ (by simp) (by simp) (by simp) _,
   by exact recomputePath_same (fun t : State => t.pending) _ (by simp) (by simp) (by simp) _,
   by exact recomputePath_same (fun t : State => t.hlc.places) _ (by simp) (by simp) (by simp) _,
   by exact recomputePath_same (fun t : State => t.hlc.hunter) _ (by simp) (by simp) (by simp) _,
   by exact recomputePath_same (fun t : State => t.hlc.lastByte) _ (by simp) (by simp) (by simp) _,
   by exact recomputePath_same (fun t : State => t.hlc.drain) _ (by simp) (by simp) (by simp) _,
   by exact recomputePath_same (fun t : State => t.dpt) _ (by simp) (by simp) (by simp) _,
   by exact recomputePath_same (fun t : State => t.tqm.originCage) _ (by simp) (by simp) (by simp) _,
   by exact recomputePath_same (fun t : State => t.tqm.originSkip) _ (by simp) (by simp) (by simp) _,
   by exact recomputePath_same (fun t : State => t.tqm.lastId) _ (by simp) (by simp) (by simp) _,
   by exact recomputePath_same (fun t : State => t.cfs.image) _ (by simp) (by simp) (by simp) _,
   by exact recomputePath_same (fun t : State => t.cfs.write) _ (by simp) (by simp) (by simp) _,
   by exact recomputePath_same (fun t : State => t.cfs.working) _ (by simp) (by simp) (by simp) _⟩

@[simp] theorem report_same (x0 : Protection) (x1 : Nat) (x2 : Bool) (s : State) : (report x0 x1 x2
    s).now = s.now ∧ (report x0 x1 x2 s).powered = s.powered ∧ (report x0 x1 x2 s).pending =
    s.pending ∧ (report x0 x1 x2 s).hlc.places = s.hlc.places ∧ (report x0 x1 x2 s).hlc.hunter =
    s.hlc.hunter ∧ (report x0 x1 x2 s).hlc.lastByte = s.hlc.lastByte ∧ (report x0 x1 x2 s).hlc.drain
    = s.hlc.drain ∧ (report x0 x1 x2 s).dpt = s.dpt ∧ (report x0 x1 x2 s).tqm.originCage =
    s.tqm.originCage ∧ (report x0 x1 x2 s).tqm.originSkip = s.tqm.originSkip ∧ (report x0 x1 x2
    s).tqm.lastId = s.tqm.lastId ∧ (report x0 x1 x2 s).cfs.image = s.cfs.image ∧ (report x0 x1 x2
    s).cfs.write = s.cfs.write ∧ (report x0 x1 x2 s).cfs.working = s.cfs.working := 
  ⟨by exact reportTest_same (fun t : State => t.now) _ (by simp) (by simp) _ _ _ _,
   by exact reportTest_same (fun t : State => t.powered) _ (by simp) (by simp) _ _ _ _,
   by exact reportTest_same (fun t : State => t.pending) _ (by simp) (by simp) _ _ _ _,
   by exact reportTest_same (fun t : State => t.hlc.places) _ (by simp) (by simp) _ _ _ _,
   by exact reportTest_same (fun t : State => t.hlc.hunter) _ (by simp) (by simp) _ _ _ _,
   by exact reportTest_same (fun t : State => t.hlc.lastByte) _ (by simp) (by simp) _ _ _ _,
   by exact reportTest_same (fun t : State => t.hlc.drain) _ (by simp) (by simp) _ _ _ _,
   by exact reportTest_same (fun t : State => t.dpt) _ (by simp) (by simp) _ _ _ _,
   by exact reportTest_same (fun t : State => t.tqm.originCage) _ (by simp) (by simp) _ _ _ _,
   by exact reportTest_same (fun t : State => t.tqm.originSkip) _ (by simp) (by simp) _ _ _ _,
   by exact reportTest_same (fun t : State => t.tqm.lastId) _ (by simp) (by simp) _ _ _ _,
   by exact reportTest_same (fun t : State => t.cfs.image) _ (by simp) (by simp) _ _ _ _,
   by exact reportTest_same (fun t : State => t.cfs.write) _ (by simp) (by simp) _ _ _ _,
   by exact reportTest_same (fun t : State => t.cfs.working) _ (by simp) (by simp) _ _ _ _⟩

@[simp] theorem enterProving_same (x0 : WinderCause) (s : State) : (enterProving x0 s).now = s.now ∧
    (enterProving x0 s).powered = s.powered ∧ (enterProving x0 s).pending = s.pending ∧
    (enterProving x0 s).hlc.places = s.hlc.places ∧ (enterProving x0 s).hlc.hunter = s.hlc.hunter ∧
    (enterProving x0 s).hlc.lastByte = s.hlc.lastByte ∧ (enterProving x0 s).hlc.drain = s.hlc.drain
    ∧ (enterProving x0 s).slc = s.slc ∧ (enterProving x0 s).pfu = s.pfu ∧ (enterProving x0 s).dpt =
    s.dpt ∧ (enterProving x0 s).tqm = s.tqm ∧ (enterProving x0 s).prt = s.prt ∧ (enterProving x0
    s).cfs = s.cfs := by
  refine ⟨?_, ?_, ?_, ?_, ?_, ?_, ?_, ?_, ?_, ?_, ?_, ?_, ?_⟩ <;> (simp [enterProving])

@[simp] theorem enterMoving_same (s : State) : (enterMoving s).now = s.now ∧ (enterMoving s).powered
    = s.powered ∧ (enterMoving s).pending = s.pending ∧ (enterMoving s).hlc.places = s.hlc.places ∧
    (enterMoving s).hlc.hunter = s.hlc.hunter ∧ (enterMoving s).hlc.lastByte = s.hlc.lastByte ∧
    (enterMoving s).hlc.drain = s.hlc.drain ∧ (enterMoving s).slc = s.slc ∧ (enterMoving s).pfu =
    s.pfu ∧ (enterMoving s).dpt = s.dpt ∧ (enterMoving s).tqm = s.tqm ∧ (enterMoving s).prt = s.prt
    ∧ (enterMoving s).cfs = s.cfs := by
  refine ⟨?_, ?_, ?_, ?_, ?_, ?_, ?_, ?_, ?_, ?_, ?_, ?_, ?_⟩ <;> ((simp only [enterMoving]; repeat' split) <;> simp)

@[simp] theorem changeoverDone_same (s : State) : (changeoverDone s).now = s.now ∧ (changeoverDone
    s).powered = s.powered ∧ (changeoverDone s).pending = s.pending ∧ (changeoverDone s).hlc.places
    = s.hlc.places ∧ (changeoverDone s).hlc.hunter = s.hlc.hunter ∧ (changeoverDone s).hlc.lastByte
    = s.hlc.lastByte ∧ (changeoverDone s).hlc.drain = s.hlc.drain ∧ (changeoverDone s).slc = s.slc ∧
    (changeoverDone s).pfu = s.pfu ∧ (changeoverDone s).dpt = s.dpt ∧ (changeoverDone s).tqm = s.tqm
    ∧ (changeoverDone s).prt = s.prt ∧ (changeoverDone s).cfs = s.cfs := by
  refine ⟨?_, ?_, ?_, ?_, ?_, ?_, ?_, ?_, ?_, ?_, ?_, ?_, ?_⟩ <;> ((simp only [changeoverDone]; repeat' split) <;> simp)

@[simp] theorem engageDone_same (x0 : Drum) (s : State) : (engageDone x0 s).now = s.now ∧
    (engageDone x0 s).powered = s.powered ∧ (engageDone x0 s).pending = s.pending ∧ (engageDone x0
    s).hlc.places = s.hlc.places ∧ (engageDone x0 s).hlc.hunter = s.hlc.hunter ∧ (engageDone x0
    s).hlc.lastByte = s.hlc.lastByte ∧ (engageDone x0 s).hlc.drain = s.hlc.drain ∧ (engageDone x0
    s).slc = s.slc ∧ (engageDone x0 s).pfu = s.pfu ∧ (engageDone x0 s).dpt = s.dpt ∧ (engageDone x0
    s).tqm = s.tqm ∧ (engageDone x0 s).prt = s.prt ∧ (engageDone x0 s).cfs = s.cfs := by
  refine ⟨?_, ?_, ?_, ?_, ?_, ?_, ?_, ?_, ?_, ?_, ?_, ?_, ?_⟩ <;> (simp [engageDone])

@[simp] theorem engagePhase_same (x0 : Drum) (s : State) : (engagePhase x0 s).now = s.now ∧
    (engagePhase x0 s).powered = s.powered ∧ (engagePhase x0 s).pending = s.pending ∧ (engagePhase
    x0 s).hlc.places = s.hlc.places ∧ (engagePhase x0 s).hlc.hunter = s.hlc.hunter ∧ (engagePhase x0
    s).hlc.lastByte = s.hlc.lastByte ∧ (engagePhase x0 s).hlc.drain = s.hlc.drain ∧ (engagePhase x0
    s).slc = s.slc ∧ (engagePhase x0 s).dpt = s.dpt ∧ (engagePhase x0 s).tqm = s.tqm ∧ (engagePhase
    x0 s).cfs.image = s.cfs.image ∧ (engagePhase x0 s).cfs.write = s.cfs.write ∧ (engagePhase x0
    s).cfs.working = s.cfs.working := by
  refine ⟨?_, ?_, ?_, ?_, ?_, ?_, ?_, ?_, ?_, ?_, ?_, ?_, ?_⟩ <;> first
    | ((simp [engagePhase]); done)
    | (((simp only [engagePhase]; repeat' split) <;> simp); done)

@[simp] theorem releaseDone_same (x0 : Drum) (s : State) : (releaseDone x0 s).now = s.now ∧
    (releaseDone x0 s).powered = s.powered ∧ (releaseDone x0 s).pending = s.pending ∧ (releaseDone
    x0 s).hlc.places = s.hlc.places ∧ (releaseDone x0 s).hlc.hunter = s.hlc.hunter ∧ (releaseDone x0
    s).hlc.lastByte = s.hlc.lastByte ∧ (releaseDone x0 s).hlc.drain = s.hlc.drain ∧ (releaseDone x0
    s).slc = s.slc ∧ (releaseDone x0 s).dpt = s.dpt ∧ (releaseDone x0 s).tqm = s.tqm ∧ (releaseDone
    x0 s).cfs.image = s.cfs.image ∧ (releaseDone x0 s).cfs.write = s.cfs.write ∧ (releaseDone x0
    s).cfs.working = s.cfs.working := by
  refine ⟨?_, ?_, ?_, ?_, ?_, ?_, ?_, ?_, ?_, ?_, ?_, ?_, ?_⟩ <;> (simp [releaseDone])

@[simp] theorem askChangeover_same (x0 : Drum) (s : State) : (askChangeover x0 s).now = s.now ∧
    (askChangeover x0 s).powered = s.powered ∧ (askChangeover x0 s).pending = s.pending ∧
    (askChangeover x0 s).hlc.places = s.hlc.places ∧ (askChangeover x0 s).hlc.hunter = s.hlc.hunter
    ∧ (askChangeover x0 s).hlc.lastByte = s.hlc.lastByte ∧ (askChangeover x0 s).hlc.drain =
    s.hlc.drain ∧ (askChangeover x0 s).slc = s.slc ∧ (askChangeover x0 s).dpt = s.dpt ∧
    (askChangeover x0 s).tqm = s.tqm ∧ (askChangeover x0 s).cfs.image = s.cfs.image ∧ (askChangeover
    x0 s).cfs.write = s.cfs.write ∧ (askChangeover x0 s).cfs.working = s.cfs.working := by
  refine ⟨?_, ?_, ?_, ?_, ?_, ?_, ?_, ?_, ?_, ?_, ?_, ?_, ?_⟩ <;> first
    | ((simp [askChangeover]); done)
    | (((simp only [askChangeover]; repeat' split) <;> simp); done)

@[simp] theorem takeTrip_same (x0 : Trip) (x1 : WinderCause) (s : State) : (takeTrip x0 x1 s).now =
    s.now ∧ (takeTrip x0 x1 s).powered = s.powered ∧ (takeTrip x0 x1 s).pending = s.pending ∧
    (takeTrip x0 x1 s).hlc.places = s.hlc.places ∧ (takeTrip x0 x1 s).hlc.hunter = s.hlc.hunter ∧
    (takeTrip x0 x1 s).hlc.lastByte = s.hlc.lastByte ∧ (takeTrip x0 x1 s).hlc.drain = s.hlc.drain ∧
    (takeTrip x0 x1 s).slc = s.slc ∧ (takeTrip x0 x1 s).dpt = s.dpt ∧ (takeTrip x0 x1 s).tqm = s.tqm
    ∧ (takeTrip x0 x1 s).cfs.image = s.cfs.image ∧ (takeTrip x0 x1 s).cfs.write = s.cfs.write ∧
    (takeTrip x0 x1 s).cfs.working = s.cfs.working := by
  refine ⟨?_, ?_, ?_, ?_, ?_, ?_, ?_, ?_, ?_, ?_, ?_, ?_, ?_⟩ <;> first
    | ((simp [takeTrip]); done)
    | (((simp only [takeTrip]; repeat' split) <;> simp); done)

@[simp] theorem failRun_same (x0 : Drum) (s : State) : (failRun x0 s).now = s.now ∧ (failRun x0
    s).powered = s.powered ∧ (failRun x0 s).pending = s.pending ∧ (failRun x0 s).hlc.places =
    s.hlc.places ∧ (failRun x0 s).hlc.hunter = s.hlc.hunter ∧ (failRun x0 s).hlc.lastByte =
    s.hlc.lastByte ∧ (failRun x0 s).hlc.drain = s.hlc.drain ∧ (failRun x0 s).dpt = s.dpt ∧ (failRun
    x0 s).tqm.originCage = s.tqm.originCage ∧ (failRun x0 s).tqm.originSkip = s.tqm.originSkip ∧
    (failRun x0 s).tqm.lastId = s.tqm.lastId ∧ (failRun x0 s).cfs.image = s.cfs.image ∧ (failRun x0
    s).cfs.write = s.cfs.write ∧ (failRun x0 s).cfs.working = s.cfs.working := by
  refine ⟨?_, ?_, ?_, ?_, ?_, ?_, ?_, ?_, ?_, ?_, ?_, ?_, ?_, ?_⟩ <;> (simp [failRun])

@[simp] theorem settlingEnds_same (s : State) : (settlingEnds s).now = s.now ∧ (settlingEnds
    s).powered = s.powered ∧ (settlingEnds s).pending = s.pending ∧ (settlingEnds s).hlc.places =
    s.hlc.places ∧ (settlingEnds s).hlc.hunter = s.hlc.hunter ∧ (settlingEnds s).hlc.lastByte =
    s.hlc.lastByte ∧ (settlingEnds s).hlc.drain = s.hlc.drain ∧ (settlingEnds s).dpt = s.dpt ∧
    (settlingEnds s).tqm.originCage = s.tqm.originCage ∧ (settlingEnds s).tqm.originSkip =
    s.tqm.originSkip ∧ (settlingEnds s).tqm.lastId = s.tqm.lastId ∧ (settlingEnds s).cfs.image =
    s.cfs.image ∧ (settlingEnds s).cfs.write = s.cfs.write ∧ (settlingEnds s).cfs.working =
    s.cfs.working := by
  refine ⟨?_, ?_, ?_, ?_, ?_, ?_, ?_, ?_, ?_, ?_, ?_, ?_, ?_, ?_⟩ <;> ((simp only [settlingEnds]; repeat' split) <;> simp)

@[simp] theorem settingEnds_same (s : State) : (settingEnds s).now = s.now ∧ (settingEnds s).powered
    = s.powered ∧ (settingEnds s).pending = s.pending ∧ (settingEnds s).hlc.places = s.hlc.places ∧
    (settingEnds s).hlc.hunter = s.hlc.hunter ∧ (settingEnds s).hlc.lastByte = s.hlc.lastByte ∧
    (settingEnds s).hlc.drain = s.hlc.drain ∧ (settingEnds s).dpt = s.dpt ∧ (settingEnds
    s).tqm.originCage = s.tqm.originCage ∧ (settingEnds s).tqm.originSkip = s.tqm.originSkip ∧
    (settingEnds s).tqm.lastId = s.tqm.lastId ∧ (settingEnds s).cfs.image = s.cfs.image ∧
    (settingEnds s).cfs.write = s.cfs.write ∧ (settingEnds s).cfs.working = s.cfs.working := by
  refine ⟨?_, ?_, ?_, ?_, ?_, ?_, ?_, ?_, ?_, ?_, ?_, ?_, ?_, ?_⟩ <;> ((simp only [settingEnds]; repeat' split) <;> simp)

@[simp] theorem brakeSet_same (s : State) : (brakeSet s).now = s.now ∧ (brakeSet s).powered =
    s.powered ∧ (brakeSet s).pending = s.pending ∧ (brakeSet s).hlc.places = s.hlc.places ∧
    (brakeSet s).hlc.hunter = s.hlc.hunter ∧ (brakeSet s).hlc.lastByte = s.hlc.lastByte ∧ (brakeSet
    s).hlc.drain = s.hlc.drain ∧ (brakeSet s).dpt = s.dpt ∧ (brakeSet s).tqm.originCage =
    s.tqm.originCage ∧ (brakeSet s).tqm.originSkip = s.tqm.originSkip ∧ (brakeSet s).tqm.lastId =
    s.tqm.lastId ∧ (brakeSet s).cfs.image = s.cfs.image ∧ (brakeSet s).cfs.write = s.cfs.write ∧
    (brakeSet s).cfs.working = s.cfs.working := by
  refine ⟨?_, ?_, ?_, ?_, ?_, ?_, ?_, ?_, ?_, ?_, ?_, ?_, ?_, ?_⟩ <;> ((simp only [brakeSet]; repeat' split) <;> simp)

end Sys2Proof.Machine
end

