-- ==== Sys2Proof/Laws/FramesSample.lean ====
section
/-! SUPPORT. Frames: what the operations of Sampling and Rounds: samples, pulses, polls and answers leave unchanged. -/

namespace Sys2Proof.Machine

set_option linter.unusedTactic false
set_option linter.unusedSimpArgs false
set_option linter.unnecessarySeqFocus false

theorem dispatchSignal_same {β : Type} (part : State → β)
    (hjoin : ∀ t s, part (joinQueue t s) = part s) (hclaim : ∀ f s, part (claim f s) = part s)
    (n : Nat) (mask : Option Mask) (a : StationAnswer) (s t : State) : part ((dispatchSignal n mask a s).act t) = part t := by
  simp only [dispatchSignal, dispatchCall, dispatchReady, dispatchCancel, answerSignal, removeTrip]
  repeat' split
  all_goals first | rfl | exact hjoin _ _ | exact hclaim _ _

@[simp] theorem makeUnknown_same (x0 : Conveyance) (s : State) : (makeUnknown x0 s).now = s.now ∧
    (makeUnknown x0 s).powered = s.powered ∧ (makeUnknown x0 s).pending = s.pending ∧ (makeUnknown
    x0 s).hlc = s.hlc ∧ (makeUnknown x0 s).slc = s.slc ∧ (makeUnknown x0 s).pfu = s.pfu ∧
    (makeUnknown x0 s).dpt.drum1 = s.dpt.drum1 ∧ (makeUnknown x0 s).dpt.drum2 = s.dpt.drum2 ∧
    (makeUnknown x0 s).tqm = s.tqm ∧ (makeUnknown x0 s).msq = s.msq ∧ (makeUnknown x0 s).cpl = s.cpl
    ∧ (makeUnknown x0 s).prt = s.prt ∧ (makeUnknown x0 s).cfs = s.cfs := by
  refine ⟨?_, ?_, ?_, ?_, ?_, ?_, ?_, ?_, ?_, ?_, ?_, ?_, ?_⟩ <;> (simp [makeUnknown])

@[simp] theorem loseDrum_same (x0 : Drum) (s : State) : (loseDrum x0 s).now = s.now ∧ (loseDrum x0
    s).powered = s.powered ∧ (loseDrum x0 s).pending = s.pending ∧ (loseDrum x0 s).hlc.places =
    s.hlc.places ∧ (loseDrum x0 s).hlc.hunter = s.hlc.hunter ∧ (loseDrum x0 s).hlc.lastByte =
    s.hlc.lastByte ∧ (loseDrum x0 s).hlc.drain = s.hlc.drain ∧ (loseDrum x0 s).slc = s.slc ∧
    (loseDrum x0 s).pfu = s.pfu ∧ (loseDrum x0 s).dpt.drum1 = s.dpt.drum1 ∧ (loseDrum x0
    s).dpt.drum2 = s.dpt.drum2 ∧ (loseDrum x0 s).tqm.lastId = s.tqm.lastId ∧ (loseDrum x0 s).cpl =
    s.cpl ∧ (loseDrum x0 s).prt = s.prt ∧ (loseDrum x0 s).cfs = s.cfs := by
  refine ⟨?_, ?_, ?_, ?_, ?_, ?_, ?_, ?_, ?_, ?_, ?_, ?_, ?_, ?_, ?_⟩ <;> first
    | ((simp [loseDrum]); done)
    | ((cases x0 <;> simp [loseDrum, drumConvs]); done)

@[simp] theorem encoderFault_same (x0 : Drum) (s : State) : (encoderFault x0 s).now = s.now ∧
    (encoderFault x0 s).powered = s.powered ∧ (encoderFault x0 s).pending = s.pending ∧
    (encoderFault x0 s).hlc.places = s.hlc.places ∧ (encoderFault x0 s).hlc.hunter = s.hlc.hunter ∧
    (encoderFault x0 s).hlc.lastByte = s.hlc.lastByte ∧ (encoderFault x0 s).hlc.drain = s.hlc.drain
    ∧ (encoderFault x0 s).dpt.drum1 = s.dpt.drum1 ∧ (encoderFault x0 s).dpt.drum2 = s.dpt.drum2 ∧
    (encoderFault x0 s).tqm.lastId = s.tqm.lastId ∧ (encoderFault x0 s).cfs.image = s.cfs.image ∧
    (encoderFault x0 s).cfs.write = s.cfs.write ∧ (encoderFault x0 s).cfs.working = s.cfs.working :=
    by
  refine ⟨?_, ?_, ?_, ?_, ?_, ?_, ?_, ?_, ?_, ?_, ?_, ?_, ?_⟩ <;> (simp [encoderFault])

@[simp] theorem aimAgain_same (x0 : Drum) (s : State) : (aimAgain x0 s).now = s.now ∧ (aimAgain x0
    s).powered = s.powered ∧ (aimAgain x0 s).pending = s.pending ∧ (aimAgain x0 s).hlc = s.hlc ∧
    (aimAgain x0 s).slc = s.slc ∧ (aimAgain x0 s).pfu = s.pfu ∧ (aimAgain x0 s).dpt.drum1 =
    s.dpt.drum1 ∧ (aimAgain x0 s).dpt.drum2 = s.dpt.drum2 ∧ (aimAgain x0 s).tqm = s.tqm ∧ (aimAgain
    x0 s).msq = s.msq ∧ (aimAgain x0 s).cpl = s.cpl ∧ (aimAgain x0 s).prt = s.prt ∧ (aimAgain x0
    s).cfs = s.cfs := by
  refine ⟨?_, ?_, ?_, ?_, ?_, ?_, ?_, ?_, ?_, ?_, ?_, ?_, ?_⟩ <;> first
    | ((simp [aimAgain]); done)
    | ((cases x0 <;> simp [aimAgain, drumConvs]); done)

@[simp] theorem standstillLeft_same (x0 : Drum) (s : State) : (standstillLeft x0 s).now = s.now ∧
    (standstillLeft x0 s).powered = s.powered ∧ (standstillLeft x0 s).pending = s.pending ∧
    (standstillLeft x0 s).hlc.places = s.hlc.places ∧ (standstillLeft x0 s).hlc.hunter =
    s.hlc.hunter ∧ (standstillLeft x0 s).hlc.lastByte = s.hlc.lastByte ∧ (standstillLeft x0
    s).hlc.drain = s.hlc.drain ∧ (standstillLeft x0 s).slc = s.slc ∧ (standstillLeft x0 s).pfu =
    s.pfu ∧ (standstillLeft x0 s).dpt.drum1 = s.dpt.drum1 ∧ (standstillLeft x0 s).dpt.drum2 =
    s.dpt.drum2 ∧ (standstillLeft x0 s).tqm.lastId = s.tqm.lastId ∧ (standstillLeft x0 s).cpl =
    s.cpl ∧ (standstillLeft x0 s).prt = s.prt ∧ (standstillLeft x0 s).cfs = s.cfs := by
  refine ⟨?_, ?_, ?_, ?_, ?_, ?_, ?_, ?_, ?_, ?_, ?_, ?_, ?_, ?_, ?_⟩ <;> (simp [standstillLeft])

@[simp] theorem takeSample_same (x0 : Drum) (s : State) : (takeSample x0 s).now = s.now ∧
    (takeSample x0 s).powered = s.powered ∧ (takeSample x0 s).pending = s.pending ∧ (takeSample x0
    s).hlc.places = s.hlc.places ∧ (takeSample x0 s).hlc.hunter = s.hlc.hunter ∧ (takeSample x0
    s).hlc.lastByte = s.hlc.lastByte ∧ (takeSample x0 s).hlc.drain = s.hlc.drain ∧ (takeSample x0
    s).tqm.lastId = s.tqm.lastId ∧ (takeSample x0 s).cfs.image = s.cfs.image ∧ (takeSample x0
    s).cfs.write = s.cfs.write ∧ (takeSample x0 s).cfs.working = s.cfs.working := by
  refine ⟨?_, ?_, ?_, ?_, ?_, ?_, ?_, ?_, ?_, ?_, ?_⟩ <;> first
    | ((simp [takeSample]); done)
    | (((simp only [takeSample]; repeat' split) <;> simp); done)

@[simp] theorem steer_same (x0 : Conveyance) (s : State) : (steer x0 s).now = s.now ∧ (steer x0
    s).powered = s.powered ∧ (steer x0 s).pending = s.pending ∧ (steer x0 s).hlc = s.hlc ∧ (steer x0
    s).slc = s.slc ∧ (steer x0 s).pfu = s.pfu ∧ (steer x0 s).dpt.drum1 = s.dpt.drum1 ∧ (steer x0
    s).dpt.drum2 = s.dpt.drum2 ∧ (steer x0 s).tqm = s.tqm ∧ (steer x0 s).msq = s.msq ∧ (steer x0
    s).cpl = s.cpl ∧ (steer x0 s).prt = s.prt ∧ (steer x0 s).cfs = s.cfs := by
  refine ⟨?_, ?_, ?_, ?_, ?_, ?_, ?_, ?_, ?_, ?_, ?_, ?_, ?_⟩ <;> first
    | ((simp [steer]); done)
    | (((simp only [steer]; repeat' split) <;> simp); done)

@[simp] theorem missMark_same (x0 : Conveyance) (x1 : Nat) (x2 : Dir) (x3 : Int) (s : State) :
    (missMark x0 x1 x2 x3 s).now = s.now ∧ (missMark x0 x1 x2 x3 s).powered = s.powered ∧ (missMark
    x0 x1 x2 x3 s).pending = s.pending ∧ (missMark x0 x1 x2 x3 s).hlc.places = s.hlc.places ∧
    (missMark x0 x1 x2 x3 s).hlc.hunter = s.hlc.hunter ∧ (missMark x0 x1 x2 x3 s).hlc.lastByte =
    s.hlc.lastByte ∧ (missMark x0 x1 x2 x3 s).hlc.drain = s.hlc.drain ∧ (missMark x0 x1 x2 x3
    s).dpt.drum1 = s.dpt.drum1 ∧ (missMark x0 x1 x2 x3 s).dpt.drum2 = s.dpt.drum2 ∧ (missMark x0 x1
    x2 x3 s).tqm.originCage = s.tqm.originCage ∧ (missMark x0 x1 x2 x3 s).tqm.originSkip =
    s.tqm.originSkip ∧ (missMark x0 x1 x2 x3 s).tqm.lastId = s.tqm.lastId ∧ (missMark x0 x1 x2 x3
    s).cfs.image = s.cfs.image ∧ (missMark x0 x1 x2 x3 s).cfs.write = s.cfs.write ∧ (missMark x0 x1
    x2 x3 s).cfs.working = s.cfs.working := by
  refine ⟨?_, ?_, ?_, ?_, ?_, ?_, ?_, ?_, ?_, ?_, ?_, ?_, ?_, ?_, ?_⟩ <;> first
    | ((simp [missMark]); done)
    | (((simp only [missMark]; repeat' split) <;> simp); done)

@[simp] theorem missedTest_same (x0 : Conveyance) (x1 : Nat) (s : State) : (missedTest x0 x1 s).now
    = s.now ∧ (missedTest x0 x1 s).powered = s.powered ∧ (missedTest x0 x1 s).pending = s.pending ∧
    (missedTest x0 x1 s).hlc.places = s.hlc.places ∧ (missedTest x0 x1 s).hlc.hunter = s.hlc.hunter
    ∧ (missedTest x0 x1 s).hlc.lastByte = s.hlc.lastByte ∧ (missedTest x0 x1 s).hlc.drain =
    s.hlc.drain ∧ (missedTest x0 x1 s).dpt.drum1 = s.dpt.drum1 ∧ (missedTest x0 x1 s).dpt.drum2 =
    s.dpt.drum2 ∧ (missedTest x0 x1 s).tqm.originCage = s.tqm.originCage ∧ (missedTest x0 x1
    s).tqm.originSkip = s.tqm.originSkip ∧ (missedTest x0 x1 s).tqm.lastId = s.tqm.lastId ∧
    (missedTest x0 x1 s).cfs.image = s.cfs.image ∧ (missedTest x0 x1 s).cfs.write = s.cfs.write ∧
    (missedTest x0 x1 s).cfs.working = s.cfs.working := by
  refine ⟨?_, ?_, ?_, ?_, ?_, ?_, ?_, ?_, ?_, ?_, ?_, ?_, ?_, ?_, ?_⟩ <;> (induction x1 generalizing s with | zero => rfl | succ n ih => (simp only [missedTest]; repeat' split) <;> simp [ih])

@[simp] theorem steerDrum_same (x0 : Drum) (s : State) : (steerDrum x0 s).now = s.now ∧
    (steerDrum x0 s).powered = s.powered ∧ (steerDrum x0 s).pending = s.pending ∧ (steerDrum x0
    s).hlc.places = s.hlc.places ∧ (steerDrum x0 s).hlc.hunter = s.hlc.hunter ∧ (steerDrum x0
    s).hlc.lastByte = s.hlc.lastByte ∧ (steerDrum x0 s).hlc.drain = s.hlc.drain ∧ (steerDrum x0
    s).dpt.drum1 = s.dpt.drum1 ∧ (steerDrum x0 s).dpt.drum2 = s.dpt.drum2 ∧ (steerDrum x0
    s).tqm.originCage = s.tqm.originCage ∧ (steerDrum x0 s).tqm.originSkip = s.tqm.originSkip ∧
    (steerDrum x0 s).tqm.lastId = s.tqm.lastId ∧ (steerDrum x0 s).cfs.image = s.cfs.image ∧
    (steerDrum x0 s).cfs.write = s.cfs.write ∧ (steerDrum x0 s).cfs.working = s.cfs.working := by
  cases x0 <;> simp [steerDrum, drumConvs]

@[simp] theorem missedDrum_same (x0 : Drum) (s : State) : (missedDrum x0 s).now = s.now ∧
    (missedDrum x0 s).powered = s.powered ∧ (missedDrum x0 s).pending = s.pending ∧ (missedDrum x0
    s).hlc.places = s.hlc.places ∧ (missedDrum x0 s).hlc.hunter = s.hlc.hunter ∧ (missedDrum x0
    s).hlc.lastByte = s.hlc.lastByte ∧ (missedDrum x0 s).hlc.drain = s.hlc.drain ∧ (missedDrum x0
    s).dpt.drum1 = s.dpt.drum1 ∧ (missedDrum x0 s).dpt.drum2 = s.dpt.drum2 ∧ (missedDrum x0
    s).tqm.originCage = s.tqm.originCage ∧ (missedDrum x0 s).tqm.originSkip = s.tqm.originSkip ∧
    (missedDrum x0 s).tqm.lastId = s.tqm.lastId ∧ (missedDrum x0 s).cfs.image = s.cfs.image ∧
    (missedDrum x0 s).cfs.write = s.cfs.write ∧ (missedDrum x0 s).cfs.working = s.cfs.working := by
  refine ⟨?_, ?_, ?_, ?_, ?_, ?_, ?_, ?_, ?_, ?_, ?_, ?_, ?_, ?_, ?_⟩ <;>
    (cases x0 <;> (simp only [missedDrum]; split) <;> simp [drumConvs])

@[simp] theorem watchMarks_same (x0 : Drum) (s : State) : (watchMarks x0 s).now = s.now ∧
    (watchMarks x0 s).powered = s.powered ∧ (watchMarks x0 s).pending = s.pending ∧ (watchMarks x0
    s).hlc.places = s.hlc.places ∧ (watchMarks x0 s).hlc.hunter = s.hlc.hunter ∧ (watchMarks x0
    s).hlc.lastByte = s.hlc.lastByte ∧ (watchMarks x0 s).hlc.drain = s.hlc.drain ∧ (watchMarks x0
    s).dpt.drum1 = s.dpt.drum1 ∧ (watchMarks x0 s).dpt.drum2 = s.dpt.drum2 ∧ (watchMarks x0
    s).tqm.originCage = s.tqm.originCage ∧ (watchMarks x0 s).tqm.originSkip = s.tqm.originSkip ∧
    (watchMarks x0 s).tqm.lastId = s.tqm.lastId ∧ (watchMarks x0 s).cfs.image = s.cfs.image ∧
    (watchMarks x0 s).cfs.write = s.cfs.write ∧ (watchMarks x0 s).cfs.working = s.cfs.working := by
  refine ⟨?_, ?_, ?_, ?_, ?_, ?_, ?_, ?_, ?_, ?_, ?_, ?_, ?_, ?_, ?_⟩ <;>
    ((simp only [watchMarks]; split) <;> simp)

@[simp] theorem checkLink_same (s : State) : (checkLink s).now = s.now ∧ (checkLink s).powered =
    s.powered ∧ (checkLink s).pending = s.pending ∧ (checkLink s).hlc.places = s.hlc.places ∧
    (checkLink s).hlc.hunter = s.hlc.hunter ∧ (checkLink s).hlc.lastByte = s.hlc.lastByte ∧
    (checkLink s).hlc.drain = s.hlc.drain ∧ (checkLink s).tqm.originCage = s.tqm.originCage ∧
    (checkLink s).tqm.originSkip = s.tqm.originSkip ∧ (checkLink s).tqm.lastId = s.tqm.lastId ∧
    (checkLink s).cfs.image = s.cfs.image ∧ (checkLink s).cfs.write = s.cfs.write ∧ (checkLink
    s).cfs.working = s.cfs.working := by
  refine ⟨?_, ?_, ?_, ?_, ?_, ?_, ?_, ?_, ?_, ?_, ?_, ?_, ?_⟩ <;> first
    | ((simp [checkLink]); done)
    | (((simp only [checkLink]; repeat' split) <;> simp); done)

@[simp] theorem testExhaustion_same (x0 : Trip) (s : State) : (testExhaustion x0 s).now = s.now ∧
    (testExhaustion x0 s).powered = s.powered ∧ (testExhaustion x0 s).pending = s.pending ∧
    (testExhaustion x0 s).hlc = s.hlc ∧ (testExhaustion x0 s).slc = s.slc ∧ (testExhaustion x0
    s).pfu = s.pfu ∧ (testExhaustion x0 s).dpt = s.dpt ∧ (testExhaustion x0 s).tqm = s.tqm ∧
    (testExhaustion x0 s).cpl = s.cpl ∧ (testExhaustion x0 s).prt = s.prt ∧ (testExhaustion x0
    s).cfs = s.cfs := by
  refine ⟨?_, ?_, ?_, ?_, ?_, ?_, ?_, ?_, ?_, ?_, ?_⟩ <;> ((simp only [testExhaustion]; repeat' split) <;> simp)

@[simp] theorem testExcess_same (x0 : Trip) (s : State) : (testExcess x0 s).now = s.now ∧
    (testExcess x0 s).powered = s.powered ∧ (testExcess x0 s).pending = s.pending ∧ (testExcess x0
    s).hlc.places = s.hlc.places ∧ (testExcess x0 s).hlc.hunter = s.hlc.hunter ∧ (testExcess x0
    s).hlc.lastByte = s.hlc.lastByte ∧ (testExcess x0 s).hlc.drain = s.hlc.drain ∧ (testExcess x0
    s).dpt = s.dpt ∧ (testExcess x0 s).tqm.originCage = s.tqm.originCage ∧ (testExcess x0
    s).tqm.originSkip = s.tqm.originSkip ∧ (testExcess x0 s).tqm.lastId = s.tqm.lastId ∧ (testExcess
    x0 s).cfs.image = s.cfs.image ∧ (testExcess x0 s).cfs.write = s.cfs.write ∧ (testExcess x0
    s).cfs.working = s.cfs.working := by
  refine ⟨?_, ?_, ?_, ?_, ?_, ?_, ?_, ?_, ?_, ?_, ?_, ?_, ?_, ?_⟩ <;> ((simp only [testExcess]; repeat' split) <;> simp)

@[simp] theorem sampleStands_same (x0 : Drum) (x1 : Bool) (s : State) : (sampleStands x0 x1 s).now =
    s.now ∧ (sampleStands x0 x1 s).powered = s.powered ∧ (sampleStands x0 x1 s).pending = s.pending
    ∧ (sampleStands x0 x1 s).hlc.places = s.hlc.places ∧ (sampleStands x0 x1 s).hlc.hunter =
    s.hlc.hunter ∧ (sampleStands x0 x1 s).hlc.lastByte = s.hlc.lastByte ∧ (sampleStands x0 x1
    s).hlc.drain = s.hlc.drain ∧ (sampleStands x0 x1 s).slc = s.slc ∧ (sampleStands x0 x1 s).pfu =
    s.pfu ∧ (sampleStands x0 x1 s).dpt = s.dpt ∧ (sampleStands x0 x1 s).tqm.originCage =
    s.tqm.originCage ∧ (sampleStands x0 x1 s).tqm.originSkip = s.tqm.originSkip ∧ (sampleStands x0
    x1 s).tqm.lastId = s.tqm.lastId ∧ (sampleStands x0 x1 s).prt = s.prt ∧ (sampleStands x0 x1
    s).cfs = s.cfs := by
  refine ⟨?_, ?_, ?_, ?_, ?_, ?_, ?_, ?_, ?_, ?_, ?_, ?_, ?_, ?_, ?_⟩ <;> ((simp only [sampleStands]; repeat' split) <;> simp)

@[simp] theorem sampleRun_same (x0 : Drum) (s : State) : (sampleRun x0 s).now = s.now ∧ (sampleRun
    x0 s).powered = s.powered ∧ (sampleRun x0 s).pending = s.pending ∧ (sampleRun x0 s).hlc.places =
    s.hlc.places ∧ (sampleRun x0 s).hlc.hunter = s.hlc.hunter ∧ (sampleRun x0 s).hlc.lastByte =
    s.hlc.lastByte ∧ (sampleRun x0 s).hlc.drain = s.hlc.drain ∧ (sampleRun x0 s).dpt = s.dpt ∧
    (sampleRun x0 s).tqm.originCage = s.tqm.originCage ∧ (sampleRun x0 s).tqm.originSkip =
    s.tqm.originSkip ∧ (sampleRun x0 s).tqm.lastId = s.tqm.lastId ∧ (sampleRun x0 s).cfs.image =
    s.cfs.image ∧ (sampleRun x0 s).cfs.write = s.cfs.write ∧ (sampleRun x0 s).cfs.working =
    s.cfs.working := by
  refine ⟨?_, ?_, ?_, ?_, ?_, ?_, ?_, ?_, ?_, ?_, ?_, ?_, ?_, ?_⟩ <;> ((simp only [sampleRun]; repeat' split) <;> simp)

@[simp] theorem samplePath_same (x0 : Drum) (s : State) : (samplePath x0 s).now = s.now ∧
    (samplePath x0 s).powered = s.powered ∧ (samplePath x0 s).pending = s.pending ∧ (samplePath x0
    s).hlc.places = s.hlc.places ∧ (samplePath x0 s).hlc.hunter = s.hlc.hunter ∧ (samplePath x0
    s).hlc.lastByte = s.hlc.lastByte ∧ (samplePath x0 s).hlc.drain = s.hlc.drain ∧ (samplePath x0
    s).dpt = s.dpt ∧ (samplePath x0 s).tqm.originCage = s.tqm.originCage ∧ (samplePath x0
    s).tqm.originSkip = s.tqm.originSkip ∧ (samplePath x0 s).tqm.lastId = s.tqm.lastId ∧ (samplePath
    x0 s).cfs.image = s.cfs.image ∧ (samplePath x0 s).cfs.write = s.cfs.write ∧ (samplePath x0
    s).cfs.working = s.cfs.working := by
  refine ⟨?_, ?_, ?_, ?_, ?_, ?_, ?_, ?_, ?_, ?_, ?_, ?_, ?_, ?_⟩ <;> ((simp only [samplePath]; repeat' split) <;> simp)

@[simp] theorem sampleWatch_same (x0 : Drum) (s : State) : (sampleWatch x0 s).now = s.now ∧
    (sampleWatch x0 s).powered = s.powered ∧ (sampleWatch x0 s).pending = s.pending ∧ (sampleWatch
    x0 s).hlc.places = s.hlc.places ∧ (sampleWatch x0 s).hlc.hunter = s.hlc.hunter ∧ (sampleWatch x0
    s).hlc.lastByte = s.hlc.lastByte ∧ (sampleWatch x0 s).hlc.drain = s.hlc.drain ∧ (sampleWatch x0
    s).dpt = s.dpt ∧ (sampleWatch x0 s).tqm.originCage = s.tqm.originCage ∧ (sampleWatch x0
    s).tqm.originSkip = s.tqm.originSkip ∧ (sampleWatch x0 s).tqm.lastId = s.tqm.lastId ∧
    (sampleWatch x0 s).cfs.image = s.cfs.image ∧ (sampleWatch x0 s).cfs.write = s.cfs.write ∧
    (sampleWatch x0 s).cfs.working = s.cfs.working := by
  refine ⟨?_, ?_, ?_, ?_, ?_, ?_, ?_, ?_, ?_, ?_, ?_, ?_, ?_, ?_⟩ <;> ((simp only [sampleWatch]; repeat' split) <;> simp)

@[simp] theorem sampleOverwind_same (e : Bool) (x0 : Drum) (s : State) :
    (sampleOverwind e x0 s).now = s.now ∧
    (sampleOverwind e x0 s).powered = s.powered ∧ (sampleOverwind e x0 s).pending = s.pending ∧
    (sampleOverwind e x0 s).hlc.places = s.hlc.places ∧ (sampleOverwind e x0 s).hlc.hunter =
    s.hlc.hunter ∧ (sampleOverwind e x0 s).hlc.lastByte = s.hlc.lastByte ∧ (sampleOverwind e x0
    s).hlc.drain = s.hlc.drain ∧ (sampleOverwind e x0 s).dpt = s.dpt ∧ (sampleOverwind e x0
    s).tqm.originCage = s.tqm.originCage ∧ (sampleOverwind e x0 s).tqm.originSkip = s.tqm.originSkip ∧
    (sampleOverwind e x0 s).tqm.lastId = s.tqm.lastId ∧ (sampleOverwind e x0 s).cfs.image = s.cfs.image
    ∧ (sampleOverwind e x0 s).cfs.write = s.cfs.write ∧ (sampleOverwind e x0 s).cfs.working =
    s.cfs.working := by
  refine ⟨?_, ?_, ?_, ?_, ?_, ?_, ?_, ?_, ?_, ?_, ?_, ?_, ?_, ?_⟩ <;> first
    | ((simp [sampleOverwind]); done)
    | ((cases x0 <;> simp [sampleOverwind, drumConvs]); done)

@[simp] theorem sampleDrum_same (x0 : Drum) (s : State) : (sampleDrum x0 s).powered = s.powered ∧
    (sampleDrum x0 s).pending = s.pending ∧ (sampleDrum x0 s).hlc.places = s.hlc.places ∧
    (sampleDrum x0 s).hlc.hunter = s.hlc.hunter ∧ (sampleDrum x0 s).hlc.lastByte = s.hlc.lastByte ∧
    (sampleDrum x0 s).hlc.drain = s.hlc.drain ∧ (sampleDrum x0 s).tqm.lastId = s.tqm.lastId ∧
    (sampleDrum x0 s).cfs.image = s.cfs.image ∧ (sampleDrum x0 s).cfs.write = s.cfs.write ∧
    (sampleDrum x0 s).cfs.working = s.cfs.working := by
  refine ⟨?_, ?_, ?_, ?_, ?_, ?_, ?_, ?_, ?_, ?_⟩ <;> ((simp only [sampleDrum]; repeat' split) <;> simp)

@[simp] theorem runStands_same (x0 : Drum) (s : State) : (runStands x0 s).now = s.now ∧ (runStands
    x0 s).powered = s.powered ∧ (runStands x0 s).pending = s.pending ∧ (runStands x0 s).hlc.places =
    s.hlc.places ∧ (runStands x0 s).hlc.hunter = s.hlc.hunter ∧ (runStands x0 s).hlc.lastByte =
    s.hlc.lastByte ∧ (runStands x0 s).hlc.drain = s.hlc.drain ∧ (runStands x0 s).slc = s.slc ∧
    (runStands x0 s).pfu = s.pfu ∧ (runStands x0 s).dpt = s.dpt ∧ (runStands x0 s).tqm.originCage =
    s.tqm.originCage ∧ (runStands x0 s).tqm.originSkip = s.tqm.originSkip ∧ (runStands x0
    s).tqm.lastId = s.tqm.lastId ∧ (runStands x0 s).prt = s.prt ∧ (runStands x0 s).cfs = s.cfs := by
  refine ⟨?_, ?_, ?_, ?_, ?_, ?_, ?_, ?_, ?_, ?_, ?_, ?_, ?_, ?_, ?_⟩ <;> ((simp only [runStands]; repeat' split) <;> simp)

@[simp] theorem reachStandstill_same (x0 : Drum) (s : State) : (reachStandstill x0 s).now = s.now ∧
    (reachStandstill x0 s).powered = s.powered ∧ (reachStandstill x0 s).pending = s.pending ∧
    (reachStandstill x0 s).hlc.places = s.hlc.places ∧ (reachStandstill x0 s).hlc.hunter =
    s.hlc.hunter ∧ (reachStandstill x0 s).hlc.lastByte = s.hlc.lastByte ∧ (reachStandstill x0
    s).hlc.drain = s.hlc.drain ∧ (reachStandstill x0 s).slc = s.slc ∧ (reachStandstill x0 s).pfu =
    s.pfu ∧ (reachStandstill x0 s).tqm.lastId = s.tqm.lastId ∧ (reachStandstill x0 s).prt = s.prt ∧
    (reachStandstill x0 s).cfs = s.cfs := by
  refine ⟨?_, ?_, ?_, ?_, ?_, ?_, ?_, ?_, ?_, ?_, ?_, ?_⟩ <;> first
    | ((simp [reachStandstill]); done)
    | (((simp only [reachStandstill]; repeat' split) <;> simp); done)

@[simp] theorem acceptMark_same (x0 : Conveyance) (x1 : Nat) (x2 : Int) (x3 : PosState) (s : State)
    : (acceptMark x0 x1 x2 x3 s).now = s.now ∧ (acceptMark x0 x1 x2 x3 s).powered = s.powered ∧
    (acceptMark x0 x1 x2 x3 s).pending = s.pending ∧ (acceptMark x0 x1 x2 x3 s).hlc.places =
    s.hlc.places ∧ (acceptMark x0 x1 x2 x3 s).hlc.hunter = s.hlc.hunter ∧ (acceptMark x0 x1 x2 x3
    s).hlc.lastByte = s.hlc.lastByte ∧ (acceptMark x0 x1 x2 x3 s).hlc.drain = s.hlc.drain ∧
    (acceptMark x0 x1 x2 x3 s).slc = s.slc ∧ (acceptMark x0 x1 x2 x3 s).dpt.drum1 = s.dpt.drum1 ∧
    (acceptMark x0 x1 x2 x3 s).dpt.drum2 = s.dpt.drum2 ∧ (acceptMark x0 x1 x2 x3 s).tqm = s.tqm ∧
    (acceptMark x0 x1 x2 x3 s).cfs.image = s.cfs.image ∧ (acceptMark x0 x1 x2 x3 s).cfs.write =
    s.cfs.write ∧ (acceptMark x0 x1 x2 x3 s).cfs.working = s.cfs.working := by
  refine ⟨?_, ?_, ?_, ?_, ?_, ?_, ?_, ?_, ?_, ?_, ?_, ?_, ?_, ?_⟩ <;> (simp [acceptMark])

@[simp] theorem slipMark_same (x0 : Conveyance) (x1 : Nat) (x2 : Option Int) (s : State) : (slipMark
    x0 x1 x2 s).now = s.now ∧ (slipMark x0 x1 x2 s).powered = s.powered ∧ (slipMark x0 x1 x2
    s).pending = s.pending ∧ (slipMark x0 x1 x2 s).hlc.places = s.hlc.places ∧ (slipMark x0 x1 x2
    s).hlc.hunter = s.hlc.hunter ∧ (slipMark x0 x1 x2 s).hlc.lastByte = s.hlc.lastByte ∧ (slipMark
    x0 x1 x2 s).hlc.drain = s.hlc.drain ∧ (slipMark x0 x1 x2 s).dpt.drum1 = s.dpt.drum1 ∧ (slipMark
    x0 x1 x2 s).dpt.drum2 = s.dpt.drum2 ∧ (slipMark x0 x1 x2 s).tqm.lastId = s.tqm.lastId ∧
    (slipMark x0 x1 x2 s).cfs.image = s.cfs.image ∧ (slipMark x0 x1 x2 s).cfs.write = s.cfs.write ∧
    (slipMark x0 x1 x2 s).cfs.working = s.cfs.working := by
  refine ⟨?_, ?_, ?_, ?_, ?_, ?_, ?_, ?_, ?_, ?_, ?_, ?_, ?_⟩ <;> (simp [slipMark])

@[simp] theorem gradePulse_same (x0 : Conveyance) (s : State) : (gradePulse x0 s).now = s.now ∧
    (gradePulse x0 s).powered = s.powered ∧ (gradePulse x0 s).pending = s.pending ∧ (gradePulse x0
    s).hlc.places = s.hlc.places ∧ (gradePulse x0 s).hlc.hunter = s.hlc.hunter ∧ (gradePulse x0
    s).hlc.lastByte = s.hlc.lastByte ∧ (gradePulse x0 s).hlc.drain = s.hlc.drain ∧ (gradePulse x0
    s).dpt.drum1 = s.dpt.drum1 ∧ (gradePulse x0 s).dpt.drum2 = s.dpt.drum2 ∧ (gradePulse x0
    s).tqm.lastId = s.tqm.lastId ∧ (gradePulse x0 s).cfs.image = s.cfs.image ∧ (gradePulse x0
    s).cfs.write = s.cfs.write ∧ (gradePulse x0 s).cfs.working = s.cfs.working := by
  refine ⟨?_, ?_, ?_, ?_, ?_, ?_, ?_, ?_, ?_, ?_, ?_, ?_, ?_⟩ <;> ((simp only [gradePulse]; repeat' split) <;> simp)

@[simp] theorem placeConv_same (x0 : Conveyance) (x1 : Int) (x2 : PosState) (s : State) : (placeConv
    x0 x1 x2 s).now = s.now ∧ (placeConv x0 x1 x2 s).powered = s.powered ∧ (placeConv x0 x1 x2
    s).pending = s.pending ∧ (placeConv x0 x1 x2 s).hlc = s.hlc ∧ (placeConv x0 x1 x2 s).slc = s.slc
    ∧ (placeConv x0 x1 x2 s).pfu = s.pfu ∧ (placeConv x0 x1 x2 s).dpt.drum1 = s.dpt.drum1 ∧
    (placeConv x0 x1 x2 s).dpt.drum2 = s.dpt.drum2 ∧ (placeConv x0 x1 x2 s).tqm = s.tqm ∧ (placeConv
    x0 x1 x2 s).msq = s.msq ∧ (placeConv x0 x1 x2 s).cpl = s.cpl ∧ (placeConv x0 x1 x2 s).prt =
    s.prt ∧ (placeConv x0 x1 x2 s).cfs = s.cfs := by
  refine ⟨?_, ?_, ?_, ?_, ?_, ?_, ?_, ?_, ?_, ?_, ?_, ?_, ?_⟩ <;> (simp [placeConv])

@[simp] theorem placeCounterweight_same (x0 : Drum) (s : State) : (placeCounterweight x0 s).now =
    s.now ∧ (placeCounterweight x0 s).powered = s.powered ∧ (placeCounterweight x0 s).pending =
    s.pending ∧ (placeCounterweight x0 s).hlc = s.hlc ∧ (placeCounterweight x0 s).slc = s.slc ∧
    (placeCounterweight x0 s).pfu = s.pfu ∧ (placeCounterweight x0 s).dpt.drum1 = s.dpt.drum1 ∧
    (placeCounterweight x0 s).dpt.drum2 = s.dpt.drum2 ∧ (placeCounterweight x0 s).tqm = s.tqm ∧
    (placeCounterweight x0 s).msq = s.msq ∧ (placeCounterweight x0 s).cpl = s.cpl ∧
    (placeCounterweight x0 s).prt = s.prt ∧ (placeCounterweight x0 s).cfs = s.cfs := by
  refine ⟨?_, ?_, ?_, ?_, ?_, ?_, ?_, ?_, ?_, ?_, ?_, ?_, ?_⟩ <;> ((simp only [placeCounterweight]; repeat' split) <;> simp)

@[simp] theorem missedGone_same (x0 : Drum) (s : State) : (missedGone x0 s).now = s.now ∧
    (missedGone x0 s).powered = s.powered ∧ (missedGone x0 s).pending = s.pending ∧ (missedGone x0
    s).hlc.places = s.hlc.places ∧ (missedGone x0 s).hlc.hunter = s.hlc.hunter ∧ (missedGone x0
    s).hlc.lastByte = s.hlc.lastByte ∧ (missedGone x0 s).hlc.drain = s.hlc.drain ∧ (missedGone x0
    s).slc = s.slc ∧ (missedGone x0 s).dpt = s.dpt ∧ (missedGone x0 s).tqm = s.tqm ∧ (missedGone x0
    s).cfs.image = s.cfs.image ∧ (missedGone x0 s).cfs.write = s.cfs.write ∧ (missedGone x0
    s).cfs.working = s.cfs.working := by
  refine ⟨?_, ?_, ?_, ?_, ?_, ?_, ?_, ?_, ?_, ?_, ?_, ?_, ?_⟩ <;> first
    | ((simp [missedGone]); done)
    | ((cases x0 <;> simp [missedGone, drumConvs]); done)

@[simp] theorem searchFound_same (x0 : Drum) (s : State) : (searchFound x0 s).now = s.now ∧
    (searchFound x0 s).powered = s.powered ∧ (searchFound x0 s).pending = s.pending ∧ (searchFound
    x0 s).hlc.places = s.hlc.places ∧ (searchFound x0 s).hlc.hunter = s.hlc.hunter ∧ (searchFound x0
    s).hlc.lastByte = s.hlc.lastByte ∧ (searchFound x0 s).hlc.drain = s.hlc.drain ∧ (searchFound x0
    s).slc = s.slc ∧ (searchFound x0 s).pfu = s.pfu ∧ (searchFound x0 s).dpt = s.dpt ∧ (searchFound
    x0 s).tqm = s.tqm ∧ (searchFound x0 s).cpl = s.cpl ∧ (searchFound x0 s).prt = s.prt ∧
    (searchFound x0 s).cfs = s.cfs := by
  refine ⟨?_, ?_, ?_, ?_, ?_, ?_, ?_, ?_, ?_, ?_, ?_, ?_, ?_, ?_⟩ <;> (simp [searchFound])

@[simp] theorem findMark_same (x0 : Drum) (x1 : Nat) (x2 : Int) (s : State) : (findMark x0 x1 x2
    s).now = s.now ∧ (findMark x0 x1 x2 s).powered = s.powered ∧ (findMark x0 x1 x2 s).pending =
    s.pending ∧ (findMark x0 x1 x2 s).hlc.places = s.hlc.places ∧ (findMark x0 x1 x2 s).hlc.hunter =
    s.hlc.hunter ∧ (findMark x0 x1 x2 s).hlc.lastByte = s.hlc.lastByte ∧ (findMark x0 x1 x2
    s).hlc.drain = s.hlc.drain ∧ (findMark x0 x1 x2 s).slc = s.slc ∧ (findMark x0 x1 x2 s).dpt.drum1
    = s.dpt.drum1 ∧ (findMark x0 x1 x2 s).dpt.drum2 = s.dpt.drum2 ∧ (findMark x0 x1 x2 s).tqm =
    s.tqm ∧ (findMark x0 x1 x2 s).cfs.image = s.cfs.image ∧ (findMark x0 x1 x2 s).cfs.write =
    s.cfs.write ∧ (findMark x0 x1 x2 s).cfs.working = s.cfs.working := by
  refine ⟨?_, ?_, ?_, ?_, ?_, ?_, ?_, ?_, ?_, ?_, ?_, ?_, ?_, ?_⟩ <;> (simp [findMark])

@[simp] theorem readAtPulse_same (x0 : Drum) (s : State) : (readAtPulse x0 s).now = s.now ∧
    (readAtPulse x0 s).powered = s.powered ∧ (readAtPulse x0 s).pending = s.pending ∧ (readAtPulse
    x0 s).hlc = s.hlc ∧ (readAtPulse x0 s).slc = s.slc ∧ (readAtPulse x0 s).pfu = s.pfu ∧
    (readAtPulse x0 s).tqm = s.tqm ∧ (readAtPulse x0 s).msq = s.msq ∧ (readAtPulse x0 s).cpl = s.cpl
    ∧ (readAtPulse x0 s).prt = s.prt ∧ (readAtPulse x0 s).cfs = s.cfs := by
  refine ⟨?_, ?_, ?_, ?_, ?_, ?_, ?_, ?_, ?_, ?_, ?_⟩ <;> (simp [readAtPulse])

@[simp] theorem takePulse_same (x0 : Compartment) (s : State) : (takePulse x0 s).now = s.now ∧
    (takePulse x0 s).powered = s.powered ∧ (takePulse x0 s).pending = s.pending ∧ (takePulse x0
    s).hlc.places = s.hlc.places ∧ (takePulse x0 s).hlc.hunter = s.hlc.hunter ∧ (takePulse x0
    s).hlc.lastByte = s.hlc.lastByte ∧ (takePulse x0 s).hlc.drain = s.hlc.drain ∧ (takePulse x0
    s).tqm.lastId = s.tqm.lastId ∧ (takePulse x0 s).cfs.image = s.cfs.image ∧ (takePulse x0
    s).cfs.write = s.cfs.write ∧ (takePulse x0 s).cfs.working = s.cfs.working := by
  refine ⟨?_, ?_, ?_, ?_, ?_, ?_, ?_, ?_, ?_, ?_, ?_⟩ <;> ((simp only [takePulse]; repeat' split) <;> simp)

@[simp] theorem faultLineRises_same (x0 : Drum) (s : State) : (faultLineRises x0 s).now = s.now ∧
    (faultLineRises x0 s).powered = s.powered ∧ (faultLineRises x0 s).pending = s.pending ∧
    (faultLineRises x0 s).hlc.places = s.hlc.places ∧ (faultLineRises x0 s).hlc.hunter =
    s.hlc.hunter ∧ (faultLineRises x0 s).hlc.lastByte = s.hlc.lastByte ∧ (faultLineRises x0
    s).hlc.drain = s.hlc.drain ∧ (faultLineRises x0 s).tqm.lastId = s.tqm.lastId ∧ (faultLineRises
    x0 s).cfs.image = s.cfs.image ∧ (faultLineRises x0 s).cfs.write = s.cfs.write ∧ (faultLineRises
    x0 s).cfs.working = s.cfs.working := by
  refine ⟨?_, ?_, ?_, ?_, ?_, ?_, ?_, ?_, ?_, ?_, ?_⟩ <;> first
    | ((simp [faultLineRises]); done)
    | (((simp only [faultLineRises]; repeat' split) <;> simp); done)

@[simp] theorem faultLineFalls_same (x0 : Drum) (s : State) : (faultLineFalls x0 s).now = s.now ∧
    (faultLineFalls x0 s).powered = s.powered ∧ (faultLineFalls x0 s).pending = s.pending ∧
    (faultLineFalls x0 s).hlc = s.hlc ∧ (faultLineFalls x0 s).slc = s.slc ∧ (faultLineFalls x0
    s).pfu = s.pfu ∧ (faultLineFalls x0 s).tqm = s.tqm ∧ (faultLineFalls x0 s).msq = s.msq ∧
    (faultLineFalls x0 s).cpl = s.cpl ∧ (faultLineFalls x0 s).prt = s.prt ∧ (faultLineFalls x0
    s).cfs = s.cfs := by
  refine ⟨?_, ?_, ?_, ?_, ?_, ?_, ?_, ?_, ?_, ?_, ?_⟩ <;> (simp [faultLineFalls])

@[simp] theorem countEdges_same (x0 : Drum) (x1 : Bool) (x2 : Nat) (s : State) : (countEdges x0 x1
    x2 s).now = s.now ∧ (countEdges x0 x1 x2 s).powered = s.powered ∧ (countEdges x0 x1 x2
    s).pending = s.pending ∧ (countEdges x0 x1 x2 s).hlc = s.hlc ∧ (countEdges x0 x1 x2 s).slc =
    s.slc ∧ (countEdges x0 x1 x2 s).pfu = s.pfu ∧ (countEdges x0 x1 x2 s).tqm = s.tqm ∧ (countEdges
    x0 x1 x2 s).msq = s.msq ∧ (countEdges x0 x1 x2 s).cpl = s.cpl ∧ (countEdges x0 x1 x2 s).prt =
    s.prt ∧ (countEdges x0 x1 x2 s).cfs = s.cfs := by
  refine ⟨?_, ?_, ?_, ?_, ?_, ?_, ?_, ?_, ?_, ?_, ?_⟩ <;> (simp [countEdges])

@[simp] theorem stationNotice_same (x0 : Nat) (x1 : LinkState) (s : State) : (stationNotice x0 x1
    s).now = s.now ∧ (stationNotice x0 x1 s).powered = s.powered ∧ (stationNotice x0 x1 s).pending =
    s.pending ∧ (stationNotice x0 x1 s).hlc.places = s.hlc.places ∧ (stationNotice x0 x1
    s).hlc.hunter = s.hlc.hunter ∧ (stationNotice x0 x1 s).hlc.lastByte = s.hlc.lastByte ∧
    (stationNotice x0 x1 s).hlc.drain = s.hlc.drain ∧ (stationNotice x0 x1 s).slc = s.slc ∧
    (stationNotice x0 x1 s).pfu = s.pfu ∧ (stationNotice x0 x1 s).dpt = s.dpt ∧ (stationNotice x0 x1
    s).tqm = s.tqm ∧ (stationNotice x0 x1 s).msq = s.msq ∧ (stationNotice x0 x1 s).cpl = s.cpl ∧
    (stationNotice x0 x1 s).prt = s.prt ∧ (stationNotice x0 x1 s).cfs = s.cfs := by
  refine ⟨?_, ?_, ?_, ?_, ?_, ?_, ?_, ?_, ?_, ?_, ?_, ?_, ?_, ?_, ?_⟩ <;> ((simp only [stationNotice]; repeat' split) <;> simp)

@[simp] theorem testStation_same (x0 : Nat) (s : State) : (testStation x0 s).now = s.now ∧
    (testStation x0 s).powered = s.powered ∧ (testStation x0 s).pending = s.pending ∧ (testStation
    x0 s).hlc.places = s.hlc.places ∧ (testStation x0 s).hlc.hunter = s.hlc.hunter ∧ (testStation x0
    s).hlc.lastByte = s.hlc.lastByte ∧ (testStation x0 s).hlc.drain = s.hlc.drain ∧ (testStation x0
    s).dpt = s.dpt ∧ (testStation x0 s).tqm.originCage = s.tqm.originCage ∧ (testStation x0
    s).tqm.originSkip = s.tqm.originSkip ∧ (testStation x0 s).tqm.lastId = s.tqm.lastId ∧
    (testStation x0 s).cfs.image = s.cfs.image ∧ (testStation x0 s).cfs.write = s.cfs.write ∧
    (testStation x0 s).cfs.working = s.cfs.working := by
  refine ⟨?_, ?_, ?_, ?_, ?_, ?_, ?_, ?_, ?_, ?_, ?_, ?_, ?_, ?_⟩ <;> (simp [testStation])

@[simp] theorem loseStation_same (x0 : Nat) (x1 : Station) (s : State) : (loseStation x0 x1 s).now =
    s.now ∧ (loseStation x0 x1 s).powered = s.powered ∧ (loseStation x0 x1 s).pending = s.pending ∧
    (loseStation x0 x1 s).hlc.places = s.hlc.places ∧ (loseStation x0 x1 s).hlc.hunter =
    s.hlc.hunter ∧ (loseStation x0 x1 s).hlc.lastByte = s.hlc.lastByte ∧ (loseStation x0 x1
    s).hlc.drain = s.hlc.drain ∧ (loseStation x0 x1 s).dpt = s.dpt ∧ (loseStation x0 x1
    s).tqm.originCage = s.tqm.originCage ∧ (loseStation x0 x1 s).tqm.originSkip = s.tqm.originSkip ∧
    (loseStation x0 x1 s).tqm.lastId = s.tqm.lastId ∧ (loseStation x0 x1 s).cfs.image = s.cfs.image
    ∧ (loseStation x0 x1 s).cfs.write = s.cfs.write ∧ (loseStation x0 x1 s).cfs.working =
    s.cfs.working := by
  refine ⟨?_, ?_, ?_, ?_, ?_, ?_, ?_, ?_, ?_, ?_, ?_, ?_, ?_, ?_⟩ <;> first
    | ((simp [loseStation]); done)
    | (((simp only [loseStation]; repeat' split) <;> simp); done)

@[simp] theorem takeMiss_same (x0 : Nat) (s : State) : (takeMiss x0 s).now = s.now ∧ (takeMiss x0
    s).powered = s.powered ∧ (takeMiss x0 s).pending = s.pending ∧ (takeMiss x0 s).hlc.places =
    s.hlc.places ∧ (takeMiss x0 s).hlc.hunter = s.hlc.hunter ∧ (takeMiss x0 s).hlc.lastByte =
    s.hlc.lastByte ∧ (takeMiss x0 s).hlc.drain = s.hlc.drain ∧ (takeMiss x0 s).dpt = s.dpt ∧
    (takeMiss x0 s).tqm.originCage = s.tqm.originCage ∧ (takeMiss x0 s).tqm.originSkip =
    s.tqm.originSkip ∧ (takeMiss x0 s).tqm.lastId = s.tqm.lastId ∧ (takeMiss x0 s).cfs.image =
    s.cfs.image ∧ (takeMiss x0 s).cfs.write = s.cfs.write ∧ (takeMiss x0 s).cfs.working =
    s.cfs.working := by
  refine ⟨?_, ?_, ?_, ?_, ?_, ?_, ?_, ?_, ?_, ?_, ?_, ?_, ?_, ?_⟩ <;> ((simp only [takeMiss]; repeat' split) <;> simp)

@[simp] theorem takeSignal_same (x0 : Nat) (m : Option Mask) (x1 : StationAnswer) (s : State) : (takeSignal x0 m x1
    s).now = s.now ∧ (takeSignal x0 m x1 s).powered = s.powered ∧ (takeSignal x0 m x1 s).pending =
    s.pending ∧ (takeSignal x0 m x1 s).hlc.places = s.hlc.places ∧ (takeSignal x0 m x1 s).hlc.hunter =
    s.hlc.hunter ∧ (takeSignal x0 m x1 s).hlc.lastByte = s.hlc.lastByte ∧ (takeSignal x0 m x1
    s).hlc.drain = s.hlc.drain ∧ (takeSignal x0 m x1 s).pfu = s.pfu ∧ (takeSignal x0 m x1 s).dpt = s.dpt
    ∧ (takeSignal x0 m x1 s).tqm.originCage = s.tqm.originCage ∧ (takeSignal x0 m x1 s).tqm.originSkip =
    s.tqm.originSkip ∧ (takeSignal x0 m x1 s).cpl = s.cpl ∧ (takeSignal x0 m x1 s).prt = s.prt ∧
    (takeSignal x0 m x1 s).cfs = s.cfs := 
  ⟨by (simp only [takeSignal]; split) <;> simp [dispatchSignal_same (fun t : State => t.now) (by simp) (by simp)],
   by (simp only [takeSignal]; split) <;> simp [dispatchSignal_same (fun t : State => t.powered) (by simp) (by simp)],
   by (simp only [takeSignal]; split) <;> simp [dispatchSignal_same (fun t : State => t.pending) (by simp) (by simp)],
   by (simp only [takeSignal]; split) <;> simp [dispatchSignal_same (fun t : State => t.hlc.places) (by simp) (by simp)],
   by (simp only [takeSignal]; split) <;> simp [dispatchSignal_same (fun t : State => t.hlc.hunter) (by simp) (by simp)],
   by (simp only [takeSignal]; split) <;> simp [dispatchSignal_same (fun t : State => t.hlc.lastByte) (by simp) (by simp)],
   by (simp only [takeSignal]; split) <;> simp [dispatchSignal_same (fun t : State => t.hlc.drain) (by simp) (by simp)],
   by (simp only [takeSignal]; split) <;> simp [dispatchSignal_same (fun t : State => t.pfu) (by simp) (by simp)],
   by (simp only [takeSignal]; split) <;> simp [dispatchSignal_same (fun t : State => t.dpt) (by simp) (by simp)],
   by (simp only [takeSignal]; split) <;> simp [dispatchSignal_same (fun t : State => t.tqm.originCage) (by simp) (by simp)],
   by (simp only [takeSignal]; split) <;> simp [dispatchSignal_same (fun t : State => t.tqm.originSkip) (by simp) (by simp)],
   by (simp only [takeSignal]; split) <;> simp [dispatchSignal_same (fun t : State => t.cpl) (by simp) (by simp)],
   by (simp only [takeSignal]; split) <;> simp [dispatchSignal_same (fun t : State => t.prt) (by simp) (by simp)],
   by (simp only [takeSignal]; split) <;> simp [dispatchSignal_same (fun t : State => t.cfs) (by simp) (by simp)]⟩

@[simp] theorem takeReadings_same (x0 : Nat) (x1 : StationAnswer) (s : State) : (takeReadings x0 x1
    s).now = s.now ∧ (takeReadings x0 x1 s).powered = s.powered ∧ (takeReadings x0 x1 s).pending =
    s.pending ∧ (takeReadings x0 x1 s).hlc.places = s.hlc.places ∧ (takeReadings x0 x1 s).hlc.hunter
    = s.hlc.hunter ∧ (takeReadings x0 x1 s).hlc.lastByte = s.hlc.lastByte ∧ (takeReadings x0 x1
    s).hlc.drain = s.hlc.drain ∧ (takeReadings x0 x1 s).pfu = s.pfu ∧ (takeReadings x0 x1 s).dpt =
    s.dpt ∧ (takeReadings x0 x1 s).tqm.originCage = s.tqm.originCage ∧ (takeReadings x0 x1
    s).tqm.originSkip = s.tqm.originSkip ∧ (takeReadings x0 x1 s).tqm.lastId = s.tqm.lastId ∧
    (takeReadings x0 x1 s).cpl = s.cpl ∧ (takeReadings x0 x1 s).prt = s.prt ∧ (takeReadings x0 x1
    s).cfs = s.cfs := by
  refine ⟨?_, ?_, ?_, ?_, ?_, ?_, ?_, ?_, ?_, ?_, ?_, ?_, ?_, ?_, ?_⟩ <;> ((simp only [takeReadings]; repeat' split) <;> simp)

@[simp] theorem takeAnswer_same (x0 : Nat) (x1 : Bool) (x2 : StationAnswer) (s : State) :
    (takeAnswer x0 x1 x2 s).now = s.now ∧ (takeAnswer x0 x1 x2 s).powered = s.powered ∧ (takeAnswer
    x0 x1 x2 s).pending = s.pending ∧ (takeAnswer x0 x1 x2 s).hlc.places = s.hlc.places ∧
    (takeAnswer x0 x1 x2 s).hlc.hunter = s.hlc.hunter ∧ (takeAnswer x0 x1 x2 s).hlc.lastByte =
    s.hlc.lastByte ∧ (takeAnswer x0 x1 x2 s).hlc.drain = s.hlc.drain ∧ (takeAnswer x0 x1 x2 s).dpt =
    s.dpt ∧ (takeAnswer x0 x1 x2 s).tqm.originCage = s.tqm.originCage ∧ (takeAnswer x0 x1 x2
    s).tqm.originSkip = s.tqm.originSkip ∧ (takeAnswer x0 x1 x2 s).cfs.image = s.cfs.image ∧
    (takeAnswer x0 x1 x2 s).cfs.write = s.cfs.write ∧ (takeAnswer x0 x1 x2 s).cfs.working =
    s.cfs.working := by
  refine ⟨?_, ?_, ?_, ?_, ?_, ?_, ?_, ?_, ?_, ?_, ?_, ?_, ?_⟩ <;> ((simp only [takeAnswer]; repeat' split) <;> simp)

@[simp] theorem setExchange_same (x0 : Option Exchange) (s : State) : (setExchange x0 s).now = s.now
    ∧ (setExchange x0 s).powered = s.powered ∧ (setExchange x0 s).pending = s.pending ∧ (setExchange
    x0 s).hlc = s.hlc ∧ (setExchange x0 s).pfu = s.pfu ∧ (setExchange x0 s).dpt = s.dpt ∧
    (setExchange x0 s).tqm = s.tqm ∧ (setExchange x0 s).msq = s.msq ∧ (setExchange x0 s).cpl = s.cpl
    ∧ (setExchange x0 s).prt = s.prt ∧ (setExchange x0 s).cfs = s.cfs := by
  refine ⟨?_, ?_, ?_, ?_, ?_, ?_, ?_, ?_, ?_, ?_, ?_⟩ <;> (simp [setExchange])

@[simp] theorem pollStation_same (x0 : Nat) (s : State) : (pollStation x0 s).now = s.now ∧
    (pollStation x0 s).powered = s.powered ∧ (pollStation x0 s).pending = s.pending ∧ (pollStation
    x0 s).hlc = s.hlc ∧ (pollStation x0 s).pfu = s.pfu ∧ (pollStation x0 s).dpt = s.dpt ∧
    (pollStation x0 s).tqm = s.tqm ∧ (pollStation x0 s).msq = s.msq ∧ (pollStation x0 s).cpl = s.cpl
    ∧ (pollStation x0 s).prt = s.prt ∧ (pollStation x0 s).cfs = s.cfs := by
  refine ⟨?_, ?_, ?_, ?_, ?_, ?_, ?_, ?_, ?_, ?_, ?_⟩ <;> (simp [pollStation])

@[simp] theorem pollInRound_same (x0 : Round) (x1 : Nat) (x2 : Bool) (s : State) : (pollInRound x0
    x1 x2 s).now = s.now ∧ (pollInRound x0 x1 x2 s).powered = s.powered ∧ (pollInRound x0 x1 x2
    s).pending = s.pending ∧ (pollInRound x0 x1 x2 s).hlc = s.hlc ∧ (pollInRound x0 x1 x2 s).pfu =
    s.pfu ∧ (pollInRound x0 x1 x2 s).dpt = s.dpt ∧ (pollInRound x0 x1 x2 s).tqm = s.tqm ∧
    (pollInRound x0 x1 x2 s).msq = s.msq ∧ (pollInRound x0 x1 x2 s).cpl = s.cpl ∧ (pollInRound x0 x1
    x2 s).prt = s.prt ∧ (pollInRound x0 x1 x2 s).cfs = s.cfs := by
  refine ⟨?_, ?_, ?_, ?_, ?_, ?_, ?_, ?_, ?_, ?_, ?_⟩ <;> (simp [pollInRound])

@[simp] theorem startRound_same (s : State) : (startRound s).now = s.now ∧ (startRound s).powered =
    s.powered ∧ (startRound s).pending = s.pending ∧ (startRound s).hlc.places = s.hlc.places ∧
    (startRound s).hlc.hunter = s.hlc.hunter ∧ (startRound s).hlc.lastByte = s.hlc.lastByte ∧
    (startRound s).hlc.drain = s.hlc.drain ∧ (startRound s).dpt = s.dpt ∧ (startRound
    s).tqm.originCage = s.tqm.originCage ∧ (startRound s).tqm.originSkip = s.tqm.originSkip ∧
    (startRound s).tqm.lastId = s.tqm.lastId ∧ (startRound s).cfs.image = s.cfs.image ∧ (startRound
    s).cfs.write = s.cfs.write ∧ (startRound s).cfs.working = s.cfs.working := 
  ⟨by simp only [startRound]; rw [testLost_same (fun t : State => t.now) _ (by simp) (by simp)]; simp,
   by simp only [startRound]; rw [testLost_same (fun t : State => t.powered) _ (by simp) (by simp)]; simp,
   by simp only [startRound]; rw [testLost_same (fun t : State => t.pending) _ (by simp) (by simp)]; simp,
   by simp only [startRound]; rw [testLost_same (fun t : State => t.hlc.places) _ (by simp) (by simp)]; simp,
   by simp only [startRound]; rw [testLost_same (fun t : State => t.hlc.hunter) _ (by simp) (by simp)]; simp,
   by simp only [startRound]; rw [testLost_same (fun t : State => t.hlc.lastByte) _ (by simp) (by simp)]; simp,
   by simp only [startRound]; rw [testLost_same (fun t : State => t.hlc.drain) _ (by simp) (by simp)]; simp,
   by simp only [startRound]; rw [testLost_same (fun t : State => t.dpt) _ (by simp) (by simp)]; simp,
   by simp only [startRound]; rw [testLost_same (fun t : State => t.tqm.originCage) _ (by simp) (by simp)]; simp,
   by simp only [startRound]; rw [testLost_same (fun t : State => t.tqm.originSkip) _ (by simp) (by simp)]; simp,
   by simp only [startRound]; rw [testLost_same (fun t : State => t.tqm.lastId) _ (by simp) (by simp)]; simp,
   by simp only [startRound]; rw [testLost_same (fun t : State => t.cfs.image) _ (by simp) (by simp)]; simp,
   by simp only [startRound]; rw [testLost_same (fun t : State => t.cfs.write) _ (by simp) (by simp)]; simp,
   by simp only [startRound]; rw [testLost_same (fun t : State => t.cfs.working) _ (by simp) (by simp)]; simp⟩

@[simp] theorem receiveAnswer_same (x0 : StationAnswer) (s : State) : (receiveAnswer x0 s).now =
    s.now ∧ (receiveAnswer x0 s).powered = s.powered ∧ (receiveAnswer x0 s).pending = s.pending ∧
    (receiveAnswer x0 s).hlc.places = s.hlc.places ∧ (receiveAnswer x0 s).hlc.hunter = s.hlc.hunter
    ∧ (receiveAnswer x0 s).hlc.lastByte = s.hlc.lastByte ∧ (receiveAnswer x0 s).hlc.drain =
    s.hlc.drain ∧ (receiveAnswer x0 s).dpt = s.dpt ∧ (receiveAnswer x0 s).tqm.originCage =
    s.tqm.originCage ∧ (receiveAnswer x0 s).tqm.originSkip = s.tqm.originSkip ∧ (receiveAnswer x0
    s).cfs.image = s.cfs.image ∧ (receiveAnswer x0 s).cfs.write = s.cfs.write ∧ (receiveAnswer x0
    s).cfs.working = s.cfs.working := by
  refine ⟨?_, ?_, ?_, ?_, ?_, ?_, ?_, ?_, ?_, ?_, ?_, ?_, ?_⟩ <;> ((simp only [receiveAnswer]; repeat' split) <;> simp)

@[simp] theorem windowEnds_same (s : State) : (windowEnds s).powered = s.powered ∧ (windowEnds
    s).pending = s.pending ∧ (windowEnds s).hlc.places = s.hlc.places ∧ (windowEnds s).hlc.hunter =
    s.hlc.hunter ∧ (windowEnds s).hlc.lastByte = s.hlc.lastByte ∧ (windowEnds s).hlc.drain =
    s.hlc.drain ∧ (windowEnds s).dpt = s.dpt ∧ (windowEnds s).tqm.originCage = s.tqm.originCage ∧
    (windowEnds s).tqm.originSkip = s.tqm.originSkip ∧ (windowEnds s).tqm.lastId = s.tqm.lastId ∧
    (windowEnds s).cfs.image = s.cfs.image ∧ (windowEnds s).cfs.write = s.cfs.write ∧ (windowEnds
    s).cfs.working = s.cfs.working := by
  refine ⟨?_, ?_, ?_, ?_, ?_, ?_, ?_, ?_, ?_, ?_, ?_, ?_, ?_⟩ <;> ((simp only [windowEnds]; repeat' split) <;> simp)

end Sys2Proof.Machine
end

