-- ==== Sys2Proof/Laws/FramesRequests.lean ====
section
/-! SUPPORT. Frames: what the operations of Commit, Commissioning, Service, Field, Timers and Resets leave unchanged. -/

namespace Sys2Proof.Machine

set_option linter.unusedTactic false
set_option linter.unusedSimpArgs false
set_option linter.unnecessarySeqFocus false

@[simp] theorem commitDepth_same (x0 : Bool) (s : State) : (commitDepth x0 s).now = s.now ∧
    (commitDepth x0 s).powered = s.powered ∧ (commitDepth x0 s).pending = s.pending ∧ (commitDepth
    x0 s).hlc = s.hlc ∧ (commitDepth x0 s).slc = s.slc ∧ (commitDepth x0 s).pfu = s.pfu ∧
    (commitDepth x0 s).tqm = s.tqm ∧ (commitDepth x0 s).msq = s.msq ∧ (commitDepth x0 s).cpl = s.cpl
    ∧ (commitDepth x0 s).prt = s.prt ∧ (commitDepth x0 s).cfs = s.cfs := by
  refine ⟨?_, ?_, ?_, ?_, ?_, ?_, ?_, ?_, ?_, ?_, ?_⟩ <;> (simp [commitDepth])

@[simp] theorem freshOrigin_same (x0 : Conveyance) (s : State) : (freshOrigin x0 s).now = s.now ∧
    (freshOrigin x0 s).powered = s.powered ∧ (freshOrigin x0 s).pending = s.pending ∧ (freshOrigin
    x0 s).hlc = s.hlc ∧ (freshOrigin x0 s).slc = s.slc ∧ (freshOrigin x0 s).pfu = s.pfu ∧
    (freshOrigin x0 s).dpt = s.dpt ∧ (freshOrigin x0 s).tqm.lastId = s.tqm.lastId ∧ (freshOrigin x0
    s).msq = s.msq ∧ (freshOrigin x0 s).cpl = s.cpl ∧ (freshOrigin x0 s).prt = s.prt ∧ (freshOrigin
    x0 s).cfs = s.cfs := by
  refine ⟨?_, ?_, ?_, ?_, ?_, ?_, ?_, ?_, ?_, ?_, ?_, ?_⟩ <;> (simp [freshOrigin])

@[simp] theorem alignEntry_same (x0 : FaultEntry) (s : State) : (alignEntry x0 s).now = s.now ∧
    (alignEntry x0 s).powered = s.powered ∧ (alignEntry x0 s).pending = s.pending ∧ (alignEntry x0
    s).hlc.places = s.hlc.places ∧ (alignEntry x0 s).hlc.hunter = s.hlc.hunter ∧ (alignEntry x0
    s).hlc.lastByte = s.hlc.lastByte ∧ (alignEntry x0 s).hlc.drain = s.hlc.drain ∧ (alignEntry x0
    s).slc = s.slc ∧ (alignEntry x0 s).pfu = s.pfu ∧ (alignEntry x0 s).dpt = s.dpt ∧ (alignEntry x0
    s).tqm = s.tqm ∧ (alignEntry x0 s).msq = s.msq ∧ (alignEntry x0 s).cpl = s.cpl ∧ (alignEntry x0
    s).cfs = s.cfs := by
  refine ⟨?_, ?_, ?_, ?_, ?_, ?_, ?_, ?_, ?_, ?_, ?_, ?_, ?_, ?_⟩ <;> first
    | ((simp [alignEntry]); done)
    | (((simp only [alignEntry]; repeat' split) <;> simp); done)

@[simp] theorem refreshMissed_same (x0 : Conveyance) (s : State) : (refreshMissed x0 s).now = s.now
    ∧ (refreshMissed x0 s).powered = s.powered ∧ (refreshMissed x0 s).pending = s.pending ∧
    (refreshMissed x0 s).hlc.places = s.hlc.places ∧ (refreshMissed x0 s).hlc.hunter = s.hlc.hunter
    ∧ (refreshMissed x0 s).hlc.lastByte = s.hlc.lastByte ∧ (refreshMissed x0 s).hlc.drain =
    s.hlc.drain ∧ (refreshMissed x0 s).dpt = s.dpt ∧ (refreshMissed x0 s).tqm.originCage =
    s.tqm.originCage ∧ (refreshMissed x0 s).tqm.originSkip = s.tqm.originSkip ∧ (refreshMissed x0
    s).tqm.lastId = s.tqm.lastId ∧ (refreshMissed x0 s).cfs.image = s.cfs.image ∧ (refreshMissed x0
    s).cfs.write = s.cfs.write ∧ (refreshMissed x0 s).cfs.working = s.cfs.working := by
  refine ⟨?_, ?_, ?_, ?_, ?_, ?_, ?_, ?_, ?_, ?_, ?_, ?_, ?_, ?_⟩ <;> first
    | ((simp [refreshMissed]); done)
    | (((simp only [refreshMissed]; repeat' split) <;> simp); done)

@[simp] theorem clampOnIfNew_same (x0 : List FaultEntry) (s : State) : (clampOnIfNew x0 s).now =
    s.now ∧ (clampOnIfNew x0 s).powered = s.powered ∧ (clampOnIfNew x0 s).pending = s.pending ∧
    (clampOnIfNew x0 s).hlc.places = s.hlc.places ∧ (clampOnIfNew x0 s).hlc.hunter = s.hlc.hunter ∧
    (clampOnIfNew x0 s).hlc.lastByte = s.hlc.lastByte ∧ (clampOnIfNew x0 s).hlc.drain = s.hlc.drain
    ∧ (clampOnIfNew x0 s).slc = s.slc ∧ (clampOnIfNew x0 s).pfu = s.pfu ∧ (clampOnIfNew x0 s).dpt =
    s.dpt ∧ (clampOnIfNew x0 s).tqm = s.tqm ∧ (clampOnIfNew x0 s).cpl = s.cpl ∧ (clampOnIfNew x0
    s).prt = s.prt ∧ (clampOnIfNew x0 s).cfs = s.cfs := by
  refine ⟨?_, ?_, ?_, ?_, ?_, ?_, ?_, ?_, ?_, ?_, ?_, ?_, ?_, ?_⟩ <;> first
    | ((simp [clampOnIfNew]); done)
    | (((simp only [clampOnIfNew]; repeat' split) <;> simp); done)

@[simp] theorem withdrawIfNew_same (x0 : List FaultEntry) (s : State) : (withdrawIfNew x0 s).now =
    s.now ∧ (withdrawIfNew x0 s).powered = s.powered ∧ (withdrawIfNew x0 s).pending = s.pending ∧
    (withdrawIfNew x0 s).hlc = s.hlc ∧ (withdrawIfNew x0 s).slc = s.slc ∧ (withdrawIfNew x0 s).pfu =
    s.pfu ∧ (withdrawIfNew x0 s).dpt = s.dpt ∧ (withdrawIfNew x0 s).tqm = s.tqm ∧ (withdrawIfNew x0
    s).msq = s.msq ∧ (withdrawIfNew x0 s).prt = s.prt ∧ (withdrawIfNew x0 s).cfs = s.cfs := by
  refine ⟨?_, ?_, ?_, ?_, ?_, ?_, ?_, ?_, ?_, ?_, ?_⟩ <;> (simp [withdrawIfNew])

@[simp] theorem commitProtections_same (s : State) : (commitProtections s).now = s.now ∧
    (commitProtections s).powered = s.powered ∧ (commitProtections s).pending = s.pending ∧
    (commitProtections s).dpt = s.dpt ∧ (commitProtections s).tqm.originCage = s.tqm.originCage ∧
    (commitProtections s).tqm.originSkip = s.tqm.originSkip ∧ (commitProtections s).tqm.lastId =
    s.tqm.lastId ∧ (commitProtections s).cfs.image = s.cfs.image ∧ (commitProtections s).cfs.write =
    s.cfs.write ∧ (commitProtections s).cfs.working = s.cfs.working := by
  refine ⟨?_, ?_, ?_, ?_, ?_, ?_, ?_, ?_, ?_, ?_⟩ <;> first
    | ((simp [commitProtections]); done)
    | (((simp only [commitProtections, drumConvs, List.foldl_cons, List.foldl_nil, allConveyances]; repeat' split) <;> simp); done)

@[simp] theorem commitWinder_same (s : State) : (commitWinder s).now = s.now ∧ (commitWinder
    s).powered = s.powered ∧ (commitWinder s).pending = s.pending ∧ (commitWinder s).hlc.places =
    s.hlc.places ∧ (commitWinder s).hlc.hunter = s.hlc.hunter ∧ (commitWinder s).hlc.lastByte =
    s.hlc.lastByte ∧ (commitWinder s).hlc.drain = s.hlc.drain ∧ (commitWinder s).slc = s.slc ∧
    (commitWinder s).dpt = s.dpt ∧ (commitWinder s).tqm = s.tqm ∧ (commitWinder s).cpl = s.cpl ∧
    (commitWinder s).prt = s.prt ∧ (commitWinder s).cfs.image = s.cfs.image ∧ (commitWinder
    s).cfs.write = s.cfs.write ∧ (commitWinder s).cfs.working = s.cfs.working := by
  refine ⟨?_, ?_, ?_, ?_, ?_, ?_, ?_, ?_, ?_, ?_, ?_, ?_, ?_, ?_, ?_⟩ <;> first
    | ((simp [commitWinder]); done)
    | (((simp only [commitWinder]; repeat' split) <;> simp); done)

@[simp] theorem putConfiguration_same (x0 : Configuration) (s : State) : (putConfiguration x0 s).now
    = s.now ∧ (putConfiguration x0 s).powered = s.powered ∧ (putConfiguration x0 s).pending =
    s.pending ∧ (putConfiguration x0 s).tqm.lastId = s.tqm.lastId ∧ (putConfiguration x0
    s).cfs.image = s.cfs.image ∧ (putConfiguration x0 s).cfs.write = s.cfs.write := by
  refine ⟨?_, ?_, ?_, ?_, ?_, ?_⟩ <;> (simp [putConfiguration])

@[simp] theorem onWorking_same (x0 : Configuration → Configuration) (s : State) : (onWorking x0
    s).now = s.now ∧ (onWorking x0 s).powered = s.powered ∧ (onWorking x0 s).pending = s.pending ∧
    (onWorking x0 s).hlc = s.hlc ∧ (onWorking x0 s).slc = s.slc ∧ (onWorking x0 s).pfu = s.pfu ∧
    (onWorking x0 s).dpt = s.dpt ∧ (onWorking x0 s).tqm = s.tqm ∧ (onWorking x0 s).msq = s.msq ∧
    (onWorking x0 s).cpl = s.cpl ∧ (onWorking x0 s).prt = s.prt ∧ (onWorking x0 s).cfs.image =
    s.cfs.image ∧ (onWorking x0 s).cfs.write = s.cfs.write ∧ (onWorking x0 s).cfs.inForce =
    s.cfs.inForce := by
  refine ⟨?_, ?_, ?_, ?_, ?_, ?_, ?_, ?_, ?_, ?_, ?_, ?_, ?_, ?_⟩ <;> (simp [onWorking])

@[simp] theorem missedRowWritten_same (x0 : Action) (s : State) : (missedRowWritten x0 s).now =
    s.now ∧ (missedRowWritten x0 s).powered = s.powered ∧ (missedRowWritten x0 s).pending =
    s.pending ∧ (missedRowWritten x0 s).hlc.places = s.hlc.places ∧ (missedRowWritten x0
    s).hlc.hunter = s.hlc.hunter ∧ (missedRowWritten x0 s).hlc.lastByte = s.hlc.lastByte ∧
    (missedRowWritten x0 s).hlc.drain = s.hlc.drain ∧ (missedRowWritten x0 s).slc = s.slc ∧
    (missedRowWritten x0 s).dpt = s.dpt ∧ (missedRowWritten x0 s).tqm = s.tqm ∧ (missedRowWritten x0
    s).cfs.image = s.cfs.image ∧ (missedRowWritten x0 s).cfs.write = s.cfs.write ∧ (missedRowWritten
    x0 s).cfs.working = s.cfs.working := by
  refine ⟨?_, ?_, ?_, ?_, ?_, ?_, ?_, ?_, ?_, ?_, ?_, ?_, ?_⟩ <;> ((simp only [missedRowWritten]; repeat' split) <;> simp)

@[simp] theorem writeProtection_same (x0 : Protection) (x1 : ProtRow) (s : State) : (writeProtection
    x0 x1 s).now = s.now ∧ (writeProtection x0 x1 s).powered = s.powered ∧ (writeProtection x0 x1
    s).pending = s.pending ∧ (writeProtection x0 x1 s).hlc.places = s.hlc.places ∧ (writeProtection
    x0 x1 s).hlc.hunter = s.hlc.hunter ∧ (writeProtection x0 x1 s).hlc.lastByte = s.hlc.lastByte ∧
    (writeProtection x0 x1 s).hlc.drain = s.hlc.drain ∧ (writeProtection x0 x1 s).slc = s.slc ∧
    (writeProtection x0 x1 s).dpt = s.dpt ∧ (writeProtection x0 x1 s).tqm = s.tqm ∧ (writeProtection
    x0 x1 s).cfs.image = s.cfs.image ∧ (writeProtection x0 x1 s).cfs.write = s.cfs.write := by
  refine ⟨?_, ?_, ?_, ?_, ?_, ?_, ?_, ?_, ?_, ?_, ?_, ?_⟩ <;> first
    | ((simp [writeProtection]); done)
    | (((simp only [writeProtection]; repeat' split) <;> simp); done)

@[simp] theorem giveConsole_same (x0 : Trip) (s : State) : (giveConsole x0 s).now = s.now ∧
    (giveConsole x0 s).powered = s.powered ∧ (giveConsole x0 s).pending = s.pending ∧ (giveConsole
    x0 s).hlc.places = s.hlc.places ∧ (giveConsole x0 s).hlc.hunter = s.hlc.hunter ∧ (giveConsole x0
    s).hlc.lastByte = s.hlc.lastByte ∧ (giveConsole x0 s).hlc.drain = s.hlc.drain ∧ (giveConsole x0
    s).slc = s.slc ∧ (giveConsole x0 s).pfu = s.pfu ∧ (giveConsole x0 s).dpt = s.dpt ∧ (giveConsole
    x0 s).tqm.originCage = s.tqm.originCage ∧ (giveConsole x0 s).tqm.originSkip = s.tqm.originSkip ∧
    (giveConsole x0 s).tqm.lastId = s.tqm.lastId ∧ (giveConsole x0 s).cpl = s.cpl ∧ (giveConsole x0
    s).prt = s.prt ∧ (giveConsole x0 s).cfs = s.cfs := by
  refine ⟨?_, ?_, ?_, ?_, ?_, ?_, ?_, ?_, ?_, ?_, ?_, ?_, ?_, ?_, ?_, ?_⟩ <;> first
    | ((simp [giveConsole]); done)
    | (((simp only [giveConsole]; repeat' split) <;> simp); done)

@[simp] theorem parkWithdrawn_same (s : State) : (parkWithdrawn s).now = s.now ∧ (parkWithdrawn
    s).powered = s.powered ∧ (parkWithdrawn s).pending = s.pending ∧ (parkWithdrawn s).hlc.places =
    s.hlc.places ∧ (parkWithdrawn s).hlc.hunter = s.hlc.hunter ∧ (parkWithdrawn s).hlc.lastByte =
    s.hlc.lastByte ∧ (parkWithdrawn s).hlc.drain = s.hlc.drain ∧ (parkWithdrawn s).slc = s.slc ∧
    (parkWithdrawn s).dpt = s.dpt ∧ (parkWithdrawn s).tqm = s.tqm ∧ (parkWithdrawn s).cpl = s.cpl ∧
    (parkWithdrawn s).prt = s.prt ∧ (parkWithdrawn s).cfs.image = s.cfs.image ∧ (parkWithdrawn
    s).cfs.write = s.cfs.write ∧ (parkWithdrawn s).cfs.working = s.cfs.working := by
  refine ⟨?_, ?_, ?_, ?_, ?_, ?_, ?_, ?_, ?_, ?_, ?_, ?_, ?_, ?_, ?_⟩ <;> (simp [parkWithdrawn])

@[simp] theorem withdrawTrip_same (x0 : Trip) (s : State) : (withdrawTrip x0 s).now = s.now ∧
    (withdrawTrip x0 s).powered = s.powered ∧ (withdrawTrip x0 s).pending = s.pending ∧
    (withdrawTrip x0 s).hlc.places = s.hlc.places ∧ (withdrawTrip x0 s).hlc.hunter = s.hlc.hunter ∧
    (withdrawTrip x0 s).hlc.lastByte = s.hlc.lastByte ∧ (withdrawTrip x0 s).hlc.drain = s.hlc.drain
    ∧ (withdrawTrip x0 s).slc = s.slc ∧ (withdrawTrip x0 s).dpt = s.dpt ∧ (withdrawTrip x0
    s).tqm.originCage = s.tqm.originCage ∧ (withdrawTrip x0 s).tqm.originSkip = s.tqm.originSkip ∧
    (withdrawTrip x0 s).tqm.lastId = s.tqm.lastId ∧ (withdrawTrip x0 s).cpl = s.cpl ∧ (withdrawTrip
    x0 s).prt = s.prt ∧ (withdrawTrip x0 s).cfs.image = s.cfs.image ∧ (withdrawTrip x0 s).cfs.write
    = s.cfs.write ∧ (withdrawTrip x0 s).cfs.working = s.cfs.working := by
  refine ⟨?_, ?_, ?_, ?_, ?_, ?_, ?_, ?_, ?_, ?_, ?_, ?_, ?_, ?_, ?_, ?_, ?_⟩ <;> first
    | ((simp [withdrawTrip]); done)
    | (((simp only [withdrawTrip]; repeat' split) <;> simp); done)

@[simp] theorem freshSearch_same (x0 : Trip) (s : State) : (freshSearch x0 s).now = s.now ∧
    (freshSearch x0 s).powered = s.powered ∧ (freshSearch x0 s).pending = s.pending ∧ (freshSearch
    x0 s).hlc = s.hlc ∧ (freshSearch x0 s).slc = s.slc ∧ (freshSearch x0 s).pfu = s.pfu ∧
    (freshSearch x0 s).dpt = s.dpt ∧ (freshSearch x0 s).tqm = s.tqm ∧ (freshSearch x0 s).cpl = s.cpl
    ∧ (freshSearch x0 s).prt = s.prt ∧ (freshSearch x0 s).cfs = s.cfs := by
  refine ⟨?_, ?_, ?_, ?_, ?_, ?_, ?_, ?_, ?_, ?_, ?_⟩ <;> (simp [freshSearch])

@[simp] theorem makeActive_same (x0 : Trip) (s : State) : (makeActive x0 s).now = s.now ∧
    (makeActive x0 s).powered = s.powered ∧ (makeActive x0 s).pending = s.pending ∧ (makeActive x0
    s).hlc.places = s.hlc.places ∧ (makeActive x0 s).hlc.hunter = s.hlc.hunter ∧ (makeActive x0
    s).hlc.lastByte = s.hlc.lastByte ∧ (makeActive x0 s).hlc.drain = s.hlc.drain ∧ (makeActive x0
    s).pfu = s.pfu ∧ (makeActive x0 s).dpt = s.dpt ∧ (makeActive x0 s).tqm.originCage =
    s.tqm.originCage ∧ (makeActive x0 s).tqm.originSkip = s.tqm.originSkip ∧ (makeActive x0
    s).tqm.lastId = s.tqm.lastId ∧ (makeActive x0 s).cpl = s.cpl ∧ (makeActive x0 s).prt = s.prt ∧
    (makeActive x0 s).cfs = s.cfs := by
  refine ⟨?_, ?_, ?_, ?_, ?_, ?_, ?_, ?_, ?_, ?_, ?_, ?_, ?_, ?_, ?_⟩ <;> (simp [makeActive])

@[simp] theorem startTrip_same (x0 : Trip) (s : State) : (startTrip x0 s).now = s.now ∧ (startTrip
    x0 s).powered = s.powered ∧ (startTrip x0 s).pending = s.pending ∧ (startTrip x0 s).hlc.places =
    s.hlc.places ∧ (startTrip x0 s).hlc.hunter = s.hlc.hunter ∧ (startTrip x0 s).hlc.lastByte =
    s.hlc.lastByte ∧ (startTrip x0 s).hlc.drain = s.hlc.drain ∧ (startTrip x0 s).dpt = s.dpt ∧
    (startTrip x0 s).tqm.originCage = s.tqm.originCage ∧ (startTrip x0 s).tqm.originSkip =
    s.tqm.originSkip ∧ (startTrip x0 s).tqm.lastId = s.tqm.lastId ∧ (startTrip x0 s).cfs.image =
    s.cfs.image ∧ (startTrip x0 s).cfs.write = s.cfs.write ∧ (startTrip x0 s).cfs.working =
    s.cfs.working := by
  refine ⟨?_, ?_, ?_, ?_, ?_, ?_, ?_, ?_, ?_, ?_, ?_, ?_, ?_, ?_⟩ <;> (simp [startTrip])

@[simp] theorem clearFaults_same (s : State) : (clearFaults s).now = s.now ∧ (clearFaults s).powered
    = s.powered ∧ (clearFaults s).pending = s.pending ∧ (clearFaults s).slc = s.slc ∧ (clearFaults
    s).dpt = s.dpt ∧ (clearFaults s).tqm = s.tqm ∧ (clearFaults s).cfs.image = s.cfs.image ∧
    (clearFaults s).cfs.write = s.cfs.write ∧ (clearFaults s).cfs.working = s.cfs.working := by
  refine ⟨?_, ?_, ?_, ?_, ?_, ?_, ?_, ?_, ?_⟩ <;> (simp [clearFaults])

@[simp] theorem reconcileDrum_same (x0 : Drum) (x1 : Int) (x2 : Dir) (s : State) : (reconcileDrum x0
    x1 x2 s).now = s.now ∧ (reconcileDrum x0 x1 x2 s).powered = s.powered ∧ (reconcileDrum x0 x1 x2
    s).pending = s.pending ∧ (reconcileDrum x0 x1 x2 s).hlc.places = s.hlc.places ∧ (reconcileDrum
    x0 x1 x2 s).hlc.hunter = s.hlc.hunter ∧ (reconcileDrum x0 x1 x2 s).hlc.lastByte = s.hlc.lastByte
    ∧ (reconcileDrum x0 x1 x2 s).hlc.drain = s.hlc.drain ∧ (reconcileDrum x0 x1 x2 s).slc = s.slc ∧
    (reconcileDrum x0 x1 x2 s).pfu = s.pfu ∧ (reconcileDrum x0 x1 x2 s).cpl = s.cpl ∧ (reconcileDrum
    x0 x1 x2 s).prt = s.prt ∧ (reconcileDrum x0 x1 x2 s).cfs = s.cfs := by
  refine ⟨?_, ?_, ?_, ?_, ?_, ?_, ?_, ?_, ?_, ?_, ?_, ?_⟩ <;> (simp [reconcileDrum])

@[simp] theorem levelOut_same (x0 : Nat) (s : State) : (levelOut x0 s).now = s.now ∧ (levelOut x0
    s).powered = s.powered ∧ (levelOut x0 s).pending = s.pending ∧ (levelOut x0 s).hlc.places =
    s.hlc.places ∧ (levelOut x0 s).hlc.hunter = s.hlc.hunter ∧ (levelOut x0 s).hlc.lastByte =
    s.hlc.lastByte ∧ (levelOut x0 s).hlc.drain = s.hlc.drain ∧ (levelOut x0 s).slc = s.slc ∧
    (levelOut x0 s).pfu = s.pfu ∧ (levelOut x0 s).dpt = s.dpt ∧ (levelOut x0 s).tqm.originCage =
    s.tqm.originCage ∧ (levelOut x0 s).tqm.originSkip = s.tqm.originSkip ∧ (levelOut x0
    s).tqm.lastId = s.tqm.lastId ∧ (levelOut x0 s).cpl = s.cpl ∧ (levelOut x0 s).prt = s.prt ∧
    (levelOut x0 s).cfs = s.cfs := by
  refine ⟨?_, ?_, ?_, ?_, ?_, ?_, ?_, ?_, ?_, ?_, ?_, ?_, ?_, ?_, ?_, ?_⟩ <;> (simp [levelOut])

@[simp] theorem zoneTightened_same (s : State) : (zoneTightened s).now = s.now ∧ (zoneTightened
    s).powered = s.powered ∧ (zoneTightened s).pending = s.pending ∧ (zoneTightened s).hlc.places =
    s.hlc.places ∧ (zoneTightened s).hlc.hunter = s.hlc.hunter ∧ (zoneTightened s).hlc.lastByte =
    s.hlc.lastByte ∧ (zoneTightened s).hlc.drain = s.hlc.drain ∧ (zoneTightened s).slc = s.slc ∧
    (zoneTightened s).pfu = s.pfu ∧ (zoneTightened s).dpt = s.dpt ∧ (zoneTightened s).tqm = s.tqm ∧
    (zoneTightened s).cpl = s.cpl ∧ (zoneTightened s).prt = s.prt ∧ (zoneTightened s).cfs = s.cfs :=
    by
  refine ⟨?_, ?_, ?_, ?_, ?_, ?_, ?_, ?_, ?_, ?_, ?_, ?_, ?_, ?_⟩ <;> ((simp only [zoneTightened]; repeat' split) <;> simp)

@[simp] theorem editConsequence_same (x0 : Edit) (s : State) : (editConsequence x0 s).now = s.now ∧
    (editConsequence x0 s).powered = s.powered ∧ (editConsequence x0 s).pending = s.pending ∧
    (editConsequence x0 s).hlc.places = s.hlc.places ∧ (editConsequence x0 s).hlc.hunter =
    s.hlc.hunter ∧ (editConsequence x0 s).hlc.lastByte = s.hlc.lastByte ∧ (editConsequence x0
    s).hlc.drain = s.hlc.drain ∧ (editConsequence x0 s).slc = s.slc ∧ (editConsequence x0 s).pfu =
    s.pfu ∧ (editConsequence x0 s).dpt = s.dpt ∧ (editConsequence x0 s).tqm.originCage =
    s.tqm.originCage ∧ (editConsequence x0 s).tqm.originSkip = s.tqm.originSkip ∧ (editConsequence
    x0 s).tqm.lastId = s.tqm.lastId ∧ (editConsequence x0 s).cpl = s.cpl ∧ (editConsequence x0
    s).prt = s.prt ∧ (editConsequence x0 s).cfs = s.cfs := by
  refine ⟨?_, ?_, ?_, ?_, ?_, ?_, ?_, ?_, ?_, ?_, ?_, ?_, ?_, ?_, ?_, ?_⟩ <;> ((simp only [editConsequence]; repeat' split) <;> simp)

@[simp] theorem editNow_same (x0 : Edit) (s : State) : (editNow x0 s).now = s.now ∧ (editNow x0
    s).powered = s.powered ∧ (editNow x0 s).pending = s.pending ∧ (editNow x0 s).hlc.places =
    s.hlc.places ∧ (editNow x0 s).hlc.hunter = s.hlc.hunter ∧ (editNow x0 s).hlc.lastByte =
    s.hlc.lastByte ∧ (editNow x0 s).hlc.drain = s.hlc.drain ∧ (editNow x0 s).slc = s.slc ∧ (editNow
    x0 s).dpt = s.dpt ∧ (editNow x0 s).tqm.originCage = s.tqm.originCage ∧ (editNow x0
    s).tqm.originSkip = s.tqm.originSkip ∧ (editNow x0 s).tqm.lastId = s.tqm.lastId ∧ (editNow x0
    s).cpl = s.cpl ∧ (editNow x0 s).prt = s.prt ∧ (editNow x0 s).cfs.image = s.cfs.image ∧ (editNow
    x0 s).cfs.write = s.cfs.write ∧ (editNow x0 s).cfs.working = s.cfs.working := by
  refine ⟨?_, ?_, ?_, ?_, ?_, ?_, ?_, ?_, ?_, ?_, ?_, ?_, ?_, ?_, ?_, ?_, ?_⟩ <;> (simp [editNow])

@[simp] theorem editParked_same (x0 : Edit) (s : State) : (editParked x0 s).now = s.now ∧
    (editParked x0 s).powered = s.powered ∧ (editParked x0 s).pending = s.pending ∧ (editParked x0
    s).hlc.places = s.hlc.places ∧ (editParked x0 s).hlc.hunter = s.hlc.hunter ∧ (editParked x0
    s).hlc.lastByte = s.hlc.lastByte ∧ (editParked x0 s).hlc.drain = s.hlc.drain ∧ (editParked x0
    s).slc = s.slc ∧ (editParked x0 s).pfu = s.pfu ∧ (editParked x0 s).dpt = s.dpt ∧ (editParked x0
    s).tqm = s.tqm ∧ (editParked x0 s).msq = s.msq ∧ (editParked x0 s).cpl = s.cpl ∧ (editParked x0
    s).prt = s.prt ∧ (editParked x0 s).cfs.image = s.cfs.image ∧ (editParked x0 s).cfs.write =
    s.cfs.write ∧ (editParked x0 s).cfs.working = s.cfs.working := by
  refine ⟨?_, ?_, ?_, ?_, ?_, ?_, ?_, ?_, ?_, ?_, ?_, ?_, ?_, ?_, ?_, ?_, ?_⟩ <;> (simp [editParked])

@[simp] theorem stageEdit_same (x0 : Edit) (s : State) : (stageEdit x0 s).now = s.now ∧ (stageEdit
    x0 s).powered = s.powered ∧ (stageEdit x0 s).pending = s.pending ∧ (stageEdit x0 s).hlc = s.hlc
    ∧ (stageEdit x0 s).slc = s.slc ∧ (stageEdit x0 s).dpt = s.dpt ∧ (stageEdit x0 s).tqm = s.tqm ∧
    (stageEdit x0 s).msq = s.msq ∧ (stageEdit x0 s).cpl = s.cpl ∧ (stageEdit x0 s).prt = s.prt ∧
    (stageEdit x0 s).cfs = s.cfs := by
  refine ⟨?_, ?_, ?_, ?_, ?_, ?_, ?_, ?_, ?_, ?_, ?_⟩ <;> (simp [stageEdit])

@[simp] theorem dropStaged_same (s : State) : (dropStaged s).now = s.now ∧ (dropStaged s).powered =
    s.powered ∧ (dropStaged s).pending = s.pending ∧ (dropStaged s).hlc.places = s.hlc.places ∧
    (dropStaged s).hlc.hunter = s.hlc.hunter ∧ (dropStaged s).hlc.lastByte = s.hlc.lastByte ∧
    (dropStaged s).hlc.drain = s.hlc.drain ∧ (dropStaged s).slc = s.slc ∧ (dropStaged s).dpt = s.dpt
    ∧ (dropStaged s).tqm = s.tqm ∧ (dropStaged s).msq = s.msq ∧ (dropStaged s).cpl = s.cpl ∧
    (dropStaged s).prt = s.prt ∧ (dropStaged s).cfs = s.cfs := by
  refine ⟨?_, ?_, ?_, ?_, ?_, ?_, ?_, ?_, ?_, ?_, ?_, ?_, ?_, ?_⟩ <;> first
    | ((simp [dropStaged]); done)
    | (((simp only [dropStaged]; repeat' split) <;> simp); done)

@[simp] theorem emptyQueue_same (s : State) : (emptyQueue s).now = s.now ∧ (emptyQueue s).powered =
    s.powered ∧ (emptyQueue s).pending = s.pending ∧ (emptyQueue s).hlc.places = s.hlc.places ∧
    (emptyQueue s).hlc.hunter = s.hlc.hunter ∧ (emptyQueue s).hlc.lastByte = s.hlc.lastByte ∧
    (emptyQueue s).hlc.drain = s.hlc.drain ∧ (emptyQueue s).slc = s.slc ∧ (emptyQueue s).pfu = s.pfu
    ∧ (emptyQueue s).dpt = s.dpt ∧ (emptyQueue s).tqm.originCage = s.tqm.originCage ∧ (emptyQueue
    s).tqm.originSkip = s.tqm.originSkip ∧ (emptyQueue s).tqm.lastId = s.tqm.lastId ∧ (emptyQueue
    s).cpl = s.cpl ∧ (emptyQueue s).prt = s.prt ∧ (emptyQueue s).cfs = s.cfs := by
  refine ⟨?_, ?_, ?_, ?_, ?_, ?_, ?_, ?_, ?_, ?_, ?_, ?_, ?_, ?_, ?_, ?_⟩ <;> (simp [emptyQueue])

@[simp] theorem stopStations_same (s : State) : (stopStations s).now = s.now ∧ (stopStations
    s).powered = s.powered ∧ (stopStations s).pending = s.pending ∧ (stopStations s).hlc.places =
    s.hlc.places ∧ (stopStations s).hlc.hunter = s.hlc.hunter ∧ (stopStations s).hlc.lastByte =
    s.hlc.lastByte ∧ (stopStations s).hlc.drain = s.hlc.drain ∧ (stopStations s).dpt = s.dpt ∧
    (stopStations s).tqm = s.tqm ∧ (stopStations s).cfs.image = s.cfs.image ∧ (stopStations
    s).cfs.write = s.cfs.write ∧ (stopStations s).cfs.working = s.cfs.working := by
  refine ⟨?_, ?_, ?_, ?_, ?_, ?_, ?_, ?_, ?_, ?_, ?_, ?_⟩ <;> (simp [stopStations])

@[simp] theorem enterCommission_same (s : State) : (enterCommission s).now = s.now ∧
    (enterCommission s).powered = s.powered ∧ (enterCommission s).pending = s.pending ∧
    (enterCommission s).hlc.places = s.hlc.places ∧ (enterCommission s).hlc.hunter = s.hlc.hunter ∧
    (enterCommission s).hlc.lastByte = s.hlc.lastByte ∧ (enterCommission s).hlc.drain = s.hlc.drain
    ∧ (enterCommission s).dpt = s.dpt ∧ (enterCommission s).tqm.originCage = s.tqm.originCage ∧
    (enterCommission s).tqm.originSkip = s.tqm.originSkip ∧ (enterCommission s).tqm.lastId =
    s.tqm.lastId := by
  refine ⟨?_, ?_, ?_, ?_, ?_, ?_, ?_, ?_, ?_, ?_, ?_⟩ <;> (simp [enterCommission])

@[simp] theorem beginStore_same (s : State) : (beginStore s).now = s.now ∧ (beginStore s).powered =
    s.powered ∧ (beginStore s).pending = s.pending ∧ (beginStore s).hlc = s.hlc ∧ (beginStore s).slc
    = s.slc ∧ (beginStore s).pfu = s.pfu ∧ (beginStore s).dpt = s.dpt ∧ (beginStore s).tqm = s.tqm ∧
    (beginStore s).msq = s.msq ∧ (beginStore s).cpl = s.cpl ∧ (beginStore s).prt = s.prt ∧
    (beginStore s).cfs.working = s.cfs.working ∧ (beginStore s).cfs.inForce = s.cfs.inForce := by
  refine ⟨?_, ?_, ?_, ?_, ?_, ?_, ?_, ?_, ?_, ?_, ?_, ?_, ?_⟩ <;> (simp [beginStore])

@[simp] theorem beginDrain_same (s : State) : (beginDrain s).now = s.now ∧ (beginDrain s).powered =
    s.powered ∧ (beginDrain s).pending = s.pending ∧ (beginDrain s).slc = s.slc ∧ (beginDrain s).pfu
    = s.pfu ∧ (beginDrain s).dpt = s.dpt ∧ (beginDrain s).tqm = s.tqm ∧ (beginDrain s).msq = s.msq ∧
    (beginDrain s).cpl = s.cpl ∧ (beginDrain s).prt = s.prt ∧ (beginDrain s).cfs = s.cfs := by
  refine ⟨?_, ?_, ?_, ?_, ?_, ?_, ?_, ?_, ?_, ?_, ?_⟩ <;> (simp [beginDrain])

@[simp] theorem hunterAt_same (x0 : Hunter) (s : State) : (hunterAt x0 s).now = s.now ∧ (hunterAt x0
    s).powered = s.powered ∧ (hunterAt x0 s).pending = s.pending ∧ (hunterAt x0 s).slc = s.slc ∧
    (hunterAt x0 s).pfu = s.pfu ∧ (hunterAt x0 s).dpt = s.dpt ∧ (hunterAt x0 s).tqm = s.tqm ∧
    (hunterAt x0 s).msq = s.msq ∧ (hunterAt x0 s).cpl = s.cpl ∧ (hunterAt x0 s).prt = s.prt ∧
    (hunterAt x0 s).cfs = s.cfs := by
  refine ⟨?_, ?_, ?_, ?_, ?_, ?_, ?_, ?_, ?_, ?_, ?_⟩ <;> (simp [hunterAt])

@[simp] theorem discardFrame_same (s : State) : (discardFrame s).now = s.now ∧ (discardFrame
    s).powered = s.powered ∧ (discardFrame s).pending = s.pending ∧ (discardFrame s).slc = s.slc ∧
    (discardFrame s).pfu = s.pfu ∧ (discardFrame s).dpt = s.dpt ∧ (discardFrame s).tqm = s.tqm ∧
    (discardFrame s).msq = s.msq ∧ (discardFrame s).cpl = s.cpl ∧ (discardFrame s).prt = s.prt ∧
    (discardFrame s).cfs = s.cfs := by
  refine ⟨?_, ?_, ?_, ?_, ?_, ?_, ?_, ?_, ?_, ?_, ?_⟩ <;> ((simp only [discardFrame]; repeat' split) <;> simp)

@[simp] theorem byteGap.passed_same (s : State) : (byteGap.passed s).powered = s.powered ∧
    (byteGap.passed s).pending = s.pending ∧ (byteGap.passed s).slc = s.slc ∧ (byteGap.passed s).pfu
    = s.pfu ∧ (byteGap.passed s).dpt = s.dpt ∧ (byteGap.passed s).tqm = s.tqm ∧ (byteGap.passed
    s).msq = s.msq ∧ (byteGap.passed s).cpl = s.cpl ∧ (byteGap.passed s).prt = s.prt ∧
    (byteGap.passed s).cfs = s.cfs := by
  refine ⟨?_, ?_, ?_, ?_, ?_, ?_, ?_, ?_, ?_, ?_⟩ <;> (simp [byteGap.passed])

@[simp] theorem byteGap_same (s : State) : (byteGap s).powered = s.powered ∧ (byteGap s).pending =
    s.pending ∧ (byteGap s).slc = s.slc ∧ (byteGap s).pfu = s.pfu ∧ (byteGap s).dpt = s.dpt ∧
    (byteGap s).tqm = s.tqm ∧ (byteGap s).msq = s.msq ∧ (byteGap s).cpl = s.cpl ∧ (byteGap s).prt =
    s.prt ∧ (byteGap s).cfs = s.cfs := by
  refine ⟨?_, ?_, ?_, ?_, ?_, ?_, ?_, ?_, ?_, ?_⟩ <;> ((simp only [byteGap]; repeat' split) <;> simp)

@[simp] theorem framingFault_same (s : State) : (framingFault s).now = s.now ∧ (framingFault
    s).powered = s.powered ∧ (framingFault s).pending = s.pending ∧ (framingFault s).slc = s.slc ∧
    (framingFault s).pfu = s.pfu ∧ (framingFault s).dpt = s.dpt ∧ (framingFault s).tqm = s.tqm ∧
    (framingFault s).msq = s.msq ∧ (framingFault s).cpl = s.cpl ∧ (framingFault s).prt = s.prt ∧
    (framingFault s).cfs = s.cfs := by
  refine ⟨?_, ?_, ?_, ?_, ?_, ?_, ?_, ?_, ?_, ?_, ?_⟩ <;> (simp [framingFault])

@[simp] theorem completeMovement_same (x0 : Drum × Movement) (s : State) : (completeMovement x0
    s).now = s.now ∧ (completeMovement x0 s).powered = s.powered ∧ (completeMovement x0 s).pending =
    s.pending ∧ (completeMovement x0 s).hlc.places = s.hlc.places ∧ (completeMovement x0
    s).hlc.hunter = s.hlc.hunter ∧ (completeMovement x0 s).hlc.lastByte = s.hlc.lastByte ∧
    (completeMovement x0 s).hlc.drain = s.hlc.drain ∧ (completeMovement x0 s).slc = s.slc ∧
    (completeMovement x0 s).dpt = s.dpt ∧ (completeMovement x0 s).tqm = s.tqm ∧ (completeMovement x0
    s).cfs.image = s.cfs.image ∧ (completeMovement x0 s).cfs.write = s.cfs.write ∧ (completeMovement
    x0 s).cfs.working = s.cfs.working := by
  refine ⟨?_, ?_, ?_, ?_, ?_, ?_, ?_, ?_, ?_, ?_, ?_, ?_, ?_⟩ <;> ((simp only [completeMovement]; repeat' split) <;> simp)

@[simp] theorem testClutch_same (x0 : Drum) (s : State) : (testClutch x0 s).now = s.now ∧
    (testClutch x0 s).powered = s.powered ∧ (testClutch x0 s).pending = s.pending ∧ (testClutch x0
    s).hlc.places = s.hlc.places ∧ (testClutch x0 s).hlc.hunter = s.hlc.hunter ∧ (testClutch x0
    s).hlc.lastByte = s.hlc.lastByte ∧ (testClutch x0 s).hlc.drain = s.hlc.drain ∧ (testClutch x0
    s).dpt = s.dpt ∧ (testClutch x0 s).tqm.originCage = s.tqm.originCage ∧ (testClutch x0
    s).tqm.originSkip = s.tqm.originSkip ∧ (testClutch x0 s).tqm.lastId = s.tqm.lastId ∧ (testClutch
    x0 s).cfs.image = s.cfs.image ∧ (testClutch x0 s).cfs.write = s.cfs.write ∧ (testClutch x0
    s).cfs.working = s.cfs.working := by
  refine ⟨?_, ?_, ?_, ?_, ?_, ?_, ?_, ?_, ?_, ?_, ?_, ?_, ?_, ?_⟩ <;> (simp [testClutch])

@[simp] theorem changeReading_same (x0 : Drum) (x1 : ClutchReading) (s : State) : (changeReading x0
    x1 s).now = s.now ∧ (changeReading x0 x1 s).powered = s.powered ∧ (changeReading x0 x1
    s).pending = s.pending ∧ (changeReading x0 x1 s).hlc.places = s.hlc.places ∧ (changeReading x0
    x1 s).hlc.hunter = s.hlc.hunter ∧ (changeReading x0 x1 s).hlc.lastByte = s.hlc.lastByte ∧
    (changeReading x0 x1 s).hlc.drain = s.hlc.drain ∧ (changeReading x0 x1 s).dpt = s.dpt ∧
    (changeReading x0 x1 s).tqm.originCage = s.tqm.originCage ∧ (changeReading x0 x1
    s).tqm.originSkip = s.tqm.originSkip ∧ (changeReading x0 x1 s).tqm.lastId = s.tqm.lastId ∧
    (changeReading x0 x1 s).cfs.image = s.cfs.image ∧ (changeReading x0 x1 s).cfs.write =
    s.cfs.write ∧ (changeReading x0 x1 s).cfs.working = s.cfs.working := by
  refine ⟨?_, ?_, ?_, ?_, ?_, ?_, ?_, ?_, ?_, ?_, ?_, ?_, ?_, ?_⟩ <;> ((simp only [changeReading]; repeat' split) <;> simp)

@[simp] theorem setUltimate_same (x0 : Compartment) (x1 : Bool) (s : State) : (setUltimate x0 x1
    s).now = s.now ∧ (setUltimate x0 x1 s).powered = s.powered ∧ (setUltimate x0 x1 s).pending =
    s.pending ∧ (setUltimate x0 x1 s).hlc = s.hlc ∧ (setUltimate x0 x1 s).slc = s.slc ∧ (setUltimate
    x0 x1 s).pfu = s.pfu ∧ (setUltimate x0 x1 s).dpt = s.dpt ∧ (setUltimate x0 x1 s).tqm = s.tqm ∧
    (setUltimate x0 x1 s).msq = s.msq ∧ (setUltimate x0 x1 s).cpl = s.cpl ∧ (setUltimate x0 x1
    s).cfs = s.cfs := by
  refine ⟨?_, ?_, ?_, ?_, ?_, ?_, ?_, ?_, ?_, ?_, ?_⟩ <;> (simp [setUltimate])

@[simp] theorem setSlack_same (x0 : Compartment) (x1 : Bool) (s : State) : (setSlack x0 x1 s).now =
    s.now ∧ (setSlack x0 x1 s).powered = s.powered ∧ (setSlack x0 x1 s).pending = s.pending ∧
    (setSlack x0 x1 s).hlc = s.hlc ∧ (setSlack x0 x1 s).slc = s.slc ∧ (setSlack x0 x1 s).pfu = s.pfu
    ∧ (setSlack x0 x1 s).dpt = s.dpt ∧ (setSlack x0 x1 s).tqm = s.tqm ∧ (setSlack x0 x1 s).msq =
    s.msq ∧ (setSlack x0 x1 s).cpl = s.cpl ∧ (setSlack x0 x1 s).cfs = s.cfs := by
  refine ⟨?_, ?_, ?_, ?_, ?_, ?_, ?_, ?_, ?_, ?_, ?_⟩ <;> (simp [setSlack])

@[simp] theorem changeUltimate_same (x0 : Compartment) (x1 : Bool) (s : State) : (changeUltimate x0
    x1 s).now = s.now ∧ (changeUltimate x0 x1 s).powered = s.powered ∧ (changeUltimate x0 x1
    s).pending = s.pending ∧ (changeUltimate x0 x1 s).hlc.places = s.hlc.places ∧ (changeUltimate x0
    x1 s).hlc.hunter = s.hlc.hunter ∧ (changeUltimate x0 x1 s).hlc.lastByte = s.hlc.lastByte ∧
    (changeUltimate x0 x1 s).hlc.drain = s.hlc.drain ∧ (changeUltimate x0 x1 s).dpt = s.dpt ∧
    (changeUltimate x0 x1 s).tqm.originCage = s.tqm.originCage ∧ (changeUltimate x0 x1
    s).tqm.originSkip = s.tqm.originSkip ∧ (changeUltimate x0 x1 s).tqm.lastId = s.tqm.lastId ∧
    (changeUltimate x0 x1 s).cfs.image = s.cfs.image ∧ (changeUltimate x0 x1 s).cfs.write =
    s.cfs.write ∧ (changeUltimate x0 x1 s).cfs.working = s.cfs.working := by
  refine ⟨?_, ?_, ?_, ?_, ?_, ?_, ?_, ?_, ?_, ?_, ?_, ?_, ?_, ?_⟩ <;> (simp [changeUltimate])

@[simp] theorem changeSlack_same (x0 : Compartment) (x1 : Bool) (s : State) : (changeSlack x0 x1
    s).now = s.now ∧ (changeSlack x0 x1 s).powered = s.powered ∧ (changeSlack x0 x1 s).pending =
    s.pending ∧ (changeSlack x0 x1 s).hlc.places = s.hlc.places ∧ (changeSlack x0 x1 s).hlc.hunter =
    s.hlc.hunter ∧ (changeSlack x0 x1 s).hlc.lastByte = s.hlc.lastByte ∧ (changeSlack x0 x1
    s).hlc.drain = s.hlc.drain ∧ (changeSlack x0 x1 s).dpt = s.dpt ∧ (changeSlack x0 x1
    s).tqm.originCage = s.tqm.originCage ∧ (changeSlack x0 x1 s).tqm.originSkip = s.tqm.originSkip ∧
    (changeSlack x0 x1 s).tqm.lastId = s.tqm.lastId ∧ (changeSlack x0 x1 s).cfs.image = s.cfs.image
    ∧ (changeSlack x0 x1 s).cfs.write = s.cfs.write ∧ (changeSlack x0 x1 s).cfs.working =
    s.cfs.working := by
  refine ⟨?_, ?_, ?_, ?_, ?_, ?_, ?_, ?_, ?_, ?_, ?_, ?_, ?_, ?_⟩ <;> (simp [changeSlack])

@[simp] theorem clutchTimeout_same (x0 : Drum) (s : State) : (clutchTimeout x0 s).powered =
    s.powered ∧ (clutchTimeout x0 s).pending = s.pending ∧ (clutchTimeout x0 s).hlc.places =
    s.hlc.places ∧ (clutchTimeout x0 s).hlc.hunter = s.hlc.hunter ∧ (clutchTimeout x0
    s).hlc.lastByte = s.hlc.lastByte ∧ (clutchTimeout x0 s).hlc.drain = s.hlc.drain ∧ (clutchTimeout
    x0 s).dpt = s.dpt ∧ (clutchTimeout x0 s).tqm.originCage = s.tqm.originCage ∧ (clutchTimeout x0
    s).tqm.originSkip = s.tqm.originSkip ∧ (clutchTimeout x0 s).tqm.lastId = s.tqm.lastId ∧
    (clutchTimeout x0 s).cfs.image = s.cfs.image ∧ (clutchTimeout x0 s).cfs.write = s.cfs.write ∧
    (clutchTimeout x0 s).cfs.working = s.cfs.working := by
  refine ⟨?_, ?_, ?_, ?_, ?_, ?_, ?_, ?_, ?_, ?_, ?_, ?_, ?_⟩ <;> ((simp only [clutchTimeout]; repeat' split) <;> simp)

@[simp] theorem torqueEnds_same (s : State) : (torqueEnds s).powered = s.powered ∧ (torqueEnds
    s).pending = s.pending ∧ (torqueEnds s).hlc.places = s.hlc.places ∧ (torqueEnds s).hlc.hunter =
    s.hlc.hunter ∧ (torqueEnds s).hlc.lastByte = s.hlc.lastByte ∧ (torqueEnds s).hlc.drain =
    s.hlc.drain ∧ (torqueEnds s).slc = s.slc ∧ (torqueEnds s).pfu = s.pfu ∧ (torqueEnds s).dpt =
    s.dpt ∧ (torqueEnds s).tqm = s.tqm ∧ (torqueEnds s).prt = s.prt ∧ (torqueEnds s).cfs = s.cfs := by
  refine ⟨?_, ?_, ?_, ?_, ?_, ?_, ?_, ?_, ?_, ?_, ?_, ?_⟩ <;> ((simp only [torqueEnds]; repeat' split) <;> simp)

@[simp] theorem brakeDelayEnds_same (s : State) : (brakeDelayEnds s).powered = s.powered ∧
    (brakeDelayEnds s).pending = s.pending ∧ (brakeDelayEnds s).hlc.places = s.hlc.places ∧
    (brakeDelayEnds s).hlc.hunter = s.hlc.hunter ∧ (brakeDelayEnds s).hlc.lastByte = s.hlc.lastByte
    ∧ (brakeDelayEnds s).hlc.drain = s.hlc.drain ∧ (brakeDelayEnds s).dpt = s.dpt ∧ (brakeDelayEnds
    s).tqm.originCage = s.tqm.originCage ∧ (brakeDelayEnds s).tqm.originSkip = s.tqm.originSkip ∧
    (brakeDelayEnds s).tqm.lastId = s.tqm.lastId ∧ (brakeDelayEnds s).cfs.image = s.cfs.image ∧
    (brakeDelayEnds s).cfs.write = s.cfs.write ∧ (brakeDelayEnds s).cfs.working = s.cfs.working := by
  refine ⟨?_, ?_, ?_, ?_, ?_, ?_, ?_, ?_, ?_, ?_, ?_, ?_, ?_⟩ <;> ((simp only [brakeDelayEnds]; repeat' split) <;> simp)

@[simp] theorem stopOverruns_same (s : State) : (stopOverruns s).powered = s.powered ∧ (stopOverruns
    s).pending = s.pending ∧ (stopOverruns s).hlc.places = s.hlc.places ∧ (stopOverruns
    s).hlc.hunter = s.hlc.hunter ∧ (stopOverruns s).hlc.lastByte = s.hlc.lastByte ∧ (stopOverruns
    s).hlc.drain = s.hlc.drain ∧ (stopOverruns s).dpt = s.dpt ∧ (stopOverruns s).tqm.originCage =
    s.tqm.originCage ∧ (stopOverruns s).tqm.originSkip = s.tqm.originSkip ∧ (stopOverruns
    s).tqm.lastId = s.tqm.lastId ∧ (stopOverruns s).cfs.image = s.cfs.image ∧ (stopOverruns
    s).cfs.write = s.cfs.write ∧ (stopOverruns s).cfs.working = s.cfs.working := by
  refine ⟨?_, ?_, ?_, ?_, ?_, ?_, ?_, ?_, ?_, ?_, ?_, ?_, ?_⟩ <;> ((simp only [stopOverruns]; repeat' split) <;> simp)

@[simp] theorem fadeEnds_same (x0 : Drum) (s : State) : (fadeEnds x0 s).powered = s.powered ∧
    (fadeEnds x0 s).pending = s.pending ∧ (fadeEnds x0 s).hlc.places = s.hlc.places ∧ (fadeEnds x0
    s).hlc.hunter = s.hlc.hunter ∧ (fadeEnds x0 s).hlc.lastByte = s.hlc.lastByte ∧ (fadeEnds x0
    s).hlc.drain = s.hlc.drain ∧ (fadeEnds x0 s).dpt = s.dpt ∧ (fadeEnds x0 s).tqm.originCage =
    s.tqm.originCage ∧ (fadeEnds x0 s).tqm.originSkip = s.tqm.originSkip ∧ (fadeEnds x0
    s).tqm.lastId = s.tqm.lastId ∧ (fadeEnds x0 s).cfs.image = s.cfs.image ∧ (fadeEnds x0
    s).cfs.write = s.cfs.write ∧ (fadeEnds x0 s).cfs.working = s.cfs.working := by
  refine ⟨?_, ?_, ?_, ?_, ?_, ?_, ?_, ?_, ?_, ?_, ?_, ?_, ?_⟩ <;> ((simp only [fadeEnds]; repeat' split) <;> simp)

@[simp] theorem retryEnds_same (x0 : Protection) (s : State) : (retryEnds x0 s).powered = s.powered
    ∧ (retryEnds x0 s).pending = s.pending ∧ (retryEnds x0 s).hlc.places = s.hlc.places ∧ (retryEnds
    x0 s).hlc.hunter = s.hlc.hunter ∧ (retryEnds x0 s).hlc.lastByte = s.hlc.lastByte ∧ (retryEnds x0
    s).hlc.drain = s.hlc.drain ∧ (retryEnds x0 s).slc = s.slc ∧ (retryEnds x0 s).dpt = s.dpt ∧
    (retryEnds x0 s).tqm = s.tqm ∧ (retryEnds x0 s).cfs.image = s.cfs.image ∧ (retryEnds x0
    s).cfs.write = s.cfs.write ∧ (retryEnds x0 s).cfs.working = s.cfs.working := by
  refine ⟨?_, ?_, ?_, ?_, ?_, ?_, ?_, ?_, ?_, ?_, ?_, ?_⟩ <;> ((simp only [retryEnds]; repeat' split) <;> simp)

@[simp] theorem pendingEnds_same (x0 : Nat) (s : State) : (pendingEnds x0 s).powered = s.powered ∧
    (pendingEnds x0 s).pending = s.pending ∧ (pendingEnds x0 s).hlc.places = s.hlc.places ∧
    (pendingEnds x0 s).hlc.hunter = s.hlc.hunter ∧ (pendingEnds x0 s).hlc.lastByte = s.hlc.lastByte
    ∧ (pendingEnds x0 s).hlc.drain = s.hlc.drain ∧ (pendingEnds x0 s).slc = s.slc ∧ (pendingEnds x0
    s).pfu = s.pfu ∧ (pendingEnds x0 s).dpt = s.dpt ∧ (pendingEnds x0 s).tqm.originCage =
    s.tqm.originCage ∧ (pendingEnds x0 s).tqm.originSkip = s.tqm.originSkip ∧ (pendingEnds x0
    s).tqm.lastId = s.tqm.lastId ∧ (pendingEnds x0 s).cpl = s.cpl ∧ (pendingEnds x0 s).prt = s.prt ∧
    (pendingEnds x0 s).cfs = s.cfs := by
  refine ⟨?_, ?_, ?_, ?_, ?_, ?_, ?_, ?_, ?_, ?_, ?_, ?_, ?_, ?_, ?_⟩ <;> ((simp only [pendingEnds]; repeat' split) <;> simp)

@[simp] theorem endWrite_same (x0 : Image) (s : State) : (endWrite x0 s).now = s.now ∧ (endWrite x0
    s).powered = s.powered ∧ (endWrite x0 s).pending = s.pending ∧ (endWrite x0 s).hlc = s.hlc ∧
    (endWrite x0 s).slc = s.slc ∧ (endWrite x0 s).pfu = s.pfu ∧ (endWrite x0 s).dpt = s.dpt ∧
    (endWrite x0 s).tqm = s.tqm ∧ (endWrite x0 s).msq = s.msq ∧ (endWrite x0 s).cpl = s.cpl ∧
    (endWrite x0 s).prt = s.prt ∧ (endWrite x0 s).cfs.working = s.cfs.working ∧ (endWrite x0
    s).cfs.inForce = s.cfs.inForce := by
  refine ⟨?_, ?_, ?_, ?_, ?_, ?_, ?_, ?_, ?_, ?_, ?_, ?_, ?_⟩ <;> (simp [endWrite])

@[simp] theorem storeEnds_same (x0 : Bool) (s : State) : (storeEnds x0 s).now = s.now ∧ (storeEnds
    x0 s).powered = s.powered ∧ (storeEnds x0 s).pending = s.pending ∧ (storeEnds x0 s).hlc.places =
    s.hlc.places ∧ (storeEnds x0 s).hlc.hunter = s.hlc.hunter ∧ (storeEnds x0 s).hlc.lastByte =
    s.hlc.lastByte ∧ (storeEnds x0 s).hlc.drain = s.hlc.drain ∧ (storeEnds x0 s).slc = s.slc ∧
    (storeEnds x0 s).pfu = s.pfu ∧ (storeEnds x0 s).dpt = s.dpt ∧ (storeEnds x0 s).tqm = s.tqm ∧
    (storeEnds x0 s).msq = s.msq ∧ (storeEnds x0 s).cpl = s.cpl ∧ (storeEnds x0 s).prt = s.prt ∧
    (storeEnds x0 s).cfs.working = s.cfs.working ∧ (storeEnds x0 s).cfs.inForce = s.cfs.inForce := by
  refine ⟨?_, ?_, ?_, ?_, ?_, ?_, ?_, ?_, ?_, ?_, ?_, ?_, ?_, ?_, ?_, ?_⟩ <;> ((simp only [storeEnds]; repeat' split) <;> simp)

@[simp] theorem presentIf_same (x0 : Bool) (x1 : Protection) (x2 : Nat) (s : State) : (presentIf x0
    x1 x2 s).now = s.now ∧ (presentIf x0 x1 x2 s).powered = s.powered ∧ (presentIf x0 x1 x2
    s).pending = s.pending ∧ (presentIf x0 x1 x2 s).hlc.places = s.hlc.places ∧ (presentIf x0 x1 x2
    s).hlc.hunter = s.hlc.hunter ∧ (presentIf x0 x1 x2 s).hlc.lastByte = s.hlc.lastByte ∧ (presentIf
    x0 x1 x2 s).hlc.drain = s.hlc.drain ∧ (presentIf x0 x1 x2 s).dpt = s.dpt ∧ (presentIf x0 x1 x2
    s).tqm.originCage = s.tqm.originCage ∧ (presentIf x0 x1 x2 s).tqm.originSkip = s.tqm.originSkip
    ∧ (presentIf x0 x1 x2 s).tqm.lastId = s.tqm.lastId ∧ (presentIf x0 x1 x2 s).cfs.image =
    s.cfs.image ∧ (presentIf x0 x1 x2 s).cfs.write = s.cfs.write ∧ (presentIf x0 x1 x2
    s).cfs.working = s.cfs.working := by
  refine ⟨?_, ?_, ?_, ?_, ?_, ?_, ?_, ?_, ?_, ?_, ?_, ?_, ?_, ?_⟩ <;> first
    | ((simp [presentIf]); done)
    | (((simp only [presentIf]; repeat' split) <;> simp); done)

@[simp] theorem faultIf_same (x0 : Drum) (s : State) : (faultIf x0 s).now = s.now ∧ (faultIf x0
    s).powered = s.powered ∧ (faultIf x0 s).pending = s.pending ∧ (faultIf x0 s).hlc.places =
    s.hlc.places ∧ (faultIf x0 s).hlc.hunter = s.hlc.hunter ∧ (faultIf x0 s).hlc.lastByte =
    s.hlc.lastByte ∧ (faultIf x0 s).hlc.drain = s.hlc.drain ∧ (faultIf x0 s).dpt.drum1 = s.dpt.drum1
    ∧ (faultIf x0 s).dpt.drum2 = s.dpt.drum2 ∧ (faultIf x0 s).tqm.lastId = s.tqm.lastId ∧ (faultIf
    x0 s).cfs.image = s.cfs.image ∧ (faultIf x0 s).cfs.write = s.cfs.write ∧ (faultIf x0
    s).cfs.working = s.cfs.working := by
  refine ⟨?_, ?_, ?_, ?_, ?_, ?_, ?_, ?_, ?_, ?_, ?_, ?_, ?_⟩ <;> first
    | ((simp [faultIf]); done)
    | (((simp only [faultIf]; repeat' split) <;> simp); done)

@[simp] theorem raiseAtReset_same (s : State) : (raiseAtReset s).now = s.now ∧ (raiseAtReset
    s).powered = s.powered ∧ (raiseAtReset s).pending = s.pending ∧ (raiseAtReset s).hlc.places =
    s.hlc.places ∧ (raiseAtReset s).hlc.hunter = s.hlc.hunter ∧ (raiseAtReset s).hlc.lastByte =
    s.hlc.lastByte ∧ (raiseAtReset s).hlc.drain = s.hlc.drain ∧ (raiseAtReset s).dpt.drum1 =
    s.dpt.drum1 ∧ (raiseAtReset s).dpt.drum2 = s.dpt.drum2 ∧ (raiseAtReset s).tqm.lastId =
    s.tqm.lastId ∧ (raiseAtReset s).cfs.image = s.cfs.image ∧ (raiseAtReset s).cfs.write =
    s.cfs.write ∧ (raiseAtReset s).cfs.working = s.cfs.working := by
  refine ⟨?_, ?_, ?_, ?_, ?_, ?_, ?_, ?_, ?_, ?_, ?_, ?_, ?_⟩ <;> first
    | ((simp [raiseAtReset]); done)
    | (((simp only [raiseAtReset, drumConvs, List.foldl_cons, List.foldl_nil, allConveyances]; repeat' split) <;> simp); done)

@[simp] theorem setPowered_same (x0 : Bool) (s : State) : (setPowered x0 s).now = s.now ∧
    (setPowered x0 s).pending = s.pending ∧ (setPowered x0 s).hlc = s.hlc ∧ (setPowered x0 s).slc =
    s.slc ∧ (setPowered x0 s).pfu = s.pfu ∧ (setPowered x0 s).dpt = s.dpt ∧ (setPowered x0 s).tqm =
    s.tqm ∧ (setPowered x0 s).msq = s.msq ∧ (setPowered x0 s).cpl = s.cpl ∧ (setPowered x0 s).prt =
    s.prt ∧ (setPowered x0 s).cfs = s.cfs := by
  refine ⟨?_, ?_, ?_, ?_, ?_, ?_, ?_, ?_, ?_, ?_, ?_⟩ <;> (simp [setPowered])

@[simp] theorem losePower_same (s : State) : (losePower s).now = s.now ∧ (losePower s).pending =
    s.pending ∧ (losePower s).slc = s.slc ∧ (losePower s).pfu = s.pfu ∧ (losePower s).dpt = s.dpt ∧
    (losePower s).tqm = s.tqm ∧ (losePower s).msq = s.msq ∧ (losePower s).prt = s.prt := by
  refine ⟨?_, ?_, ?_, ?_, ?_, ?_, ?_, ?_⟩ <;> (simp [losePower])

end Sys2Proof.Machine
end

