-- ==== Sys2Proof/Laws/Operations.lean ====
section
/-! SUPPORT. What the shared operations of the sequencer, the queue, the path and the protections do, said once:
the lemmas a proof cites instead of unfolding them. -/

namespace Sys2Proof.Machine

/-! ## Conditions (R152) -/

/-- A gone report of a condition that is not present changes nothing. -/
theorem gone_absent (p : Protection) (n : Nat) (s : State) (h : isPresent s p n = false) : gone p n s = s := by
  simp [gone, h]

/-- A present report of a condition that is present changes nothing. -/
theorem present_standing (p : Protection) (n : Nat) (s : State) (h : isPresent s p n = true) :
    present p n s = s := by
  simp [present, presentWith, h]

/-- A test that finds the condition as it is recorded changes nothing. -/
theorem report_standing (p : Protection) (n : Nat) (holds : Bool) (s : State) (h : isPresent s p n = holds) :
    report p n holds s = s := by
  cases holds
  · simp [report, reportTest, gone_absent p n s h]
  · simp only [report, reportTest, if_true]; exact present_standing p n s h

/-- An empty presence record has no member. -/
theorem isPresent_of_empty (s : State) (p : Protection) (n : Nat) (h : presence s p = 0) :
    isPresent s p n = false := by
  simp [isPresent, h, setHas]

/-- Nothing is reported gone of an empty presence record. -/
theorem goneAll_empty (p : Protection) (s : State) (h : presence s p = 0) : goneAll p s = s := by
  have : setMembers (presence s p) = [] := by
    simp [setMembers, h, setHas]
  simp [goneAll, this]

@[simp] theorem presence_onSlc (f : Slc → Slc) (s : State) (p : Protection) :
    presence (s.onSlc f) p = presence s p := rfl

@[simp] theorem presence_onMsq (f : Msq → Msq) (s : State) (p : Protection) :
    presence (s.onMsq f) p = presence s p := rfl

/-! ## The winder state and the ceiling (R107, R125) -/

@[simp] theorem notify_msq (n : Notice) (s : State) : (notify n s).msq = s.msq := by simp

@[simp] theorem winderNotice_msq (cause : WinderCause) (before : Winder) (s : State) :
    (winderNotice cause before s).msq = s.msq := by simp [winderNotice]

/-- R106, R107: only the winder state of the sequencer is written. -/
@[simp] theorem setWinder_msq (w : Winder) (cause : WinderCause) (s : State) :
    (setWinder w cause s).msq = { s.msq with winder := w } := by simp [setWinder]

/-- R125: only the effective ceiling of the sequencer is written. -/
@[simp] theorem setCeiling_msq (c : Ceiling) (s : State) :
    (setCeiling c s).msq = { s.msq with ceiling := c } := by
  simp only [setCeiling]; split <;> simp

/-- R122: an entry into PARKED. -/
@[simp] theorem enterParked_msq (cause : WinderCause) (s : State) :
    (enterParked cause s).msq = { s.msq with winder := .parked, ceiling := Ceiling.idle } := by
  simp [enterParked]

/-- R123: with a target the ceiling is brought to it. -/
theorem bringToTarget_msq (s : State) (target : Nat × Source) (h : targetNow s = some target) :
    (bringToTarget s).msq =
      { s.msq with ceiling := broughtTo (cfg s).params s.now target s.msq.ceiling } := by
  simp [bringToTarget, h]

/-- R122: without a target the ceiling stays. -/
theorem bringToTarget_none (s : State) (h : targetNow s = none) : bringToTarget s = s := by
  simp [bringToTarget, h]

/-! ## The staged edits at PARKED (R19) -/

/-- R19: the staged edits are applied in buffer order and the buffer is emptied. -/
theorem applyStaged_profile (s : State) :
    (applyStaged s).pfu.staged = [] ∧
    (applyStaged s).cfs = { s.cfs with inForce := s.cfs.inForce.map (fun c => s.pfu.staged.foldl writeEdit c) } := by
  simp only [applyStaged]
  split
  · rename_i h
    have h' : s.pfu.staged = [] := by simpa using h
    refine ⟨h', ?_⟩
    simp [h']
  · simp [setStaged, onInForce]

/-! ## Claims on the queue (R48, R79) -/

/-- The queue after a claim. -/
@[simp] theorem claim_trips (f : Trip → Change) (s : State) :
    (claim f s).tqm.trips = s.tqm.trips.filterMap (fun t => changedTrip t (f t)) := by simp [claim]

/-- R106: a claim writes no field of the sequencer but the search records of the trips it removes. -/
theorem claim_msq (f : Trip → Change) (s : State) :
    (claim f s).msq = { s.msq with
      search1 := if s.tqm.trips.any (fun t => dropsSearch .d1 t (f t)) then none else s.msq.search1
      search2 := if s.tqm.trips.any (fun t => dropsSearch .d2 t (f t)) then none else s.msq.search2 } := by
  simp [claim]

/-- A claim that keeps every trip changes nothing. -/
theorem claim_keeps (f : Trip → Change) (s : State) (h : ∀ t ∈ s.tqm.trips, f t = .keep) : claim f s = s := by
  have h1 : s.tqm.trips.filterMap (fun t => changeNotice (f t)) = [] := by
    rw [List.filterMap_eq_nil_iff]; intro t ht; rw [h t ht]; rfl
  have h2 : s.tqm.trips.filterMap (fun t => changedTrip t (f t)) = s.tqm.trips := by
    rw [List.filterMap_congr (g := some) (fun t ht => by rw [h t ht]; rfl), List.filterMap_some]
  have h3 : ∀ d, s.tqm.trips.any (fun t => dropsSearch d t (f t)) = false := by
    intro d; rw [List.any_eq_false]; intro t ht; rw [h t ht]; simp [dropsSearch]
  simp only [claim, h1, h3, notifyAll, List.foldl_nil, Bool.false_eq_true, if_false, State.onTqm, State.onMsq, h2]

/-- R76: the queue after a trip has changed its state. -/
@[simp] theorem moveTrip_trips (id : Nat) (state : TripState) (cause : TripCause) (s : State) :
    (moveTrip id state cause s).tqm.trips =
      s.tqm.trips.map (fun t => if t.id = id then { t with state := state } else t) := by
  have : ∀ t : Trip, changedTrip t (if t.id = id then Change.set cause { t with state := state } else .keep) =
      some (if t.id = id then { t with state := state } else t) := by
    intro t; split <;> rfl
  simp only [moveTrip, claim_trips, this]
  induction s.tqm.trips with
  | nil => rfl
  | cons a rest ih => simp [ih]

/-- R77: the queue after a trip has been removed. -/
@[simp] theorem removeTrip_trips (id : Nat) (outcome : TripEnd) (s : State) :
    (removeTrip id outcome s).tqm.trips = s.tqm.trips.filter (fun t => !decide (t.id = id)) := by
  have h : ∀ t : Trip, changedTrip t (if t.id = id then Change.drop outcome t else .keep) =
      if (!decide (t.id = id)) = true then some t else none := by
    intro t; by_cases ht : t.id = id <;> simp [ht, changedTrip]
  simp only [removeTrip, claim_trips, h]
  induction s.tqm.trips with
  | nil => rfl
  | cons a rest ih =>
    by_cases ha : (!decide (a.id = id)) = true
    · rw [List.filterMap_cons, List.filter_cons, ih, if_pos ha, if_pos ha]
    · rw [List.filterMap_cons, List.filter_cons, ih, if_neg ha, if_neg ha]

/-- R76: a change of a trip's state touches no field of the sequencer. -/
@[simp] theorem moveTrip_msq (id : Nat) (state : TripState) (cause : TripCause) (s : State) :
    (moveTrip id state cause s).msq = s.msq := by
  have h : ∀ (d : Drum) (t : Trip),
      dropsSearch d t (if t.id = id then Change.set cause { t with state := state } else .keep) = false := by
    intro d t; split <;> rfl
  simp [moveTrip, claim_msq, h]

/-! ## The path on a part that shows no station condition (R87, R99, R101) -/

/-- R205: on quiet stations a recomputation with no ACTIVE trip clears the path set and reports nothing. -/
theorem recomputePath_quiet (f : Protection → Nat → State → State) (s : State)
    (hs : ∀ p ∈ s.slc.stations, p.2.gatesOpen = false ∧ p.2.link ≠ .lost) (hg : presence s .pathGate = 0)
    (ha : activeTrip s = none) :
    recomputePath f s = s.onSlc (fun x => { x with path := 0, originStation := none }) := by
  have get (n : Nat) (st : Station) (h : tableGet n s.slc.stations = some st) :
      st.gatesOpen = false ∧ st.link ≠ .lost := by
    have : ∃ p ∈ s.slc.stations, p.2 = st := by
      generalize s.slc.stations = l at h
      induction l with
      | nil => simp [tableGet] at h
      | cons a rest ih =>
        simp only [tableGet] at h
        split at h
        · exact ⟨a, by simp, by simpa using h⟩
        · obtain ⟨p, hp, e⟩ := ih h; exact ⟨p, by simp [hp], e⟩
    obtain ⟨p, hp, rfl⟩ := this
    exact hs p hp
  set u := s.onSlc (fun x => { x with path := 0, originStation := none }) with hu
  have hw : writePath s = u := by simp [writePath, ha, hu]
  have hgate : ∀ n, pathGateHolds u n = false := by
    intro n; simp [pathGateHolds, setHas, hu]
  have hgone : ∀ n, reportTest f .pathGate n (pathGateHolds u n) u = u := by
    intro n
    rw [hgate]
    simp only [reportTest, Bool.false_eq_true, if_false]
    exact gone_absent _ _ _ (isPresent_of_empty _ _ _ (by simpa [hu] using hg))
  have hlost : ∀ n, isLost u n = false := by
    intro n
    have e : stationOf u n = tableGet n s.slc.stations := rfl
    simp only [isLost, e]
    cases h : tableGet n s.slc.stations with
    | none => rfl
    | some st => simp [(get n st h).2]
  have h1 : testGates f u = u := by
    have : ∀ l : List Nat, l.foldl (fun st n => reportTest f .pathGate n (pathGateHolds st n) st) u = u := by
      intro l
      induction l with
      | nil => rfl
      | cons a rest ih => rw [List.foldl_cons, hgone]; exact ih
    exact this _
  have h2 : testLost f u = u := by
    have : ∀ l : List Nat, l.foldl (fun st n => if isLost st n then
        reportTest f .stationLost n (stationLostHolds st n) st else st) u = u := by
      intro l
      induction l with
      | nil => rfl
      | cons a rest ih =>
        rw [List.foldl_cons]
        have : (if isLost u a then reportTest f .stationLost a (stationLostHolds u a) u else u) = u := by
          rw [hlost]; rfl
        rw [this]; exact ih
    exact this _
  rw [recomputePath, hw, h1, h2]

/-- R205: the reports that follow a departing trip, on quiet stations. -/
theorem departPath_quiet (s : State)
    (hs : ∀ p ∈ s.slc.stations, p.2.gatesOpen = false ∧ p.2.link ≠ .lost) (hg : presence s .pathGate = 0)
    (ha : activeTrip s = none) :
    departPath s = s.onSlc (fun x => { x with path := 0, originStation := none }) :=
  recomputePath_quiet _ s hs hg ha

/-! ## Raises (R162, R163) -/

/-- R163: a raise of a protection that has an entry changes the entry alone. -/
theorem raise_again (p : Protection) (n : Nat) (s : State) (e : FaultEntry) (h : entryOf s p = some e) :
    raise p n s = changeEntry .added (raisedAgain s.now n e) n s := by
  simp [raise, raiseWith, h]

/-- R162: a raise of a protection without an entry creates one and applies its action. -/
theorem raise_new (p : Protection) (n : Nat) (s : State) (h : entryOf s p = none)
    (ho : actionInForce s p ≠ .off) :
    raise p n s = applyAction (actionInForce s p) (joinList (newEntry s p n) n s) := by
  have e : (newEntry s p n).action = actionInForce s p := by
    simp only [newEntry]; split <;> rfl
  simp only [raise, raiseWith, h]
  rw [if_neg (by rw [e]; exact ho), e]

/-- R162: the list after a new entry has joined it. -/
@[simp] theorem joinList_entries (e : FaultEntry) (n : Nat) (s : State) :
    (joinList e n s).prt.entries = s.prt.entries ++ [e] := by
  simp [joinList, faultNotice]

/-! ## The withdraw-all request (R133, R134) -/

@[simp] theorem beginWatch_lines (d : Drum) (s : State) :
    (beginWatch d s).cpl.brk1 = s.cpl.brk1 ∧ (beginWatch d s).cpl.brk2 = s.cpl.brk2 ∧
    (beginWatch d s).cpl.drv = s.cpl.drv ∧ (beginWatch d s).cpl.changeover = s.cpl.changeover := by
  simp only [beginWatch, holdWatch, setWatch]
  cases d <;> repeat' split
  all_goals simp

/-- R135: a permit that is withdrawn stands withdrawn; the other permit and DRV stay. -/
theorem withdrawPermit_lines (d : Drum) (s : State) :
    permitOf (withdrawPermit d s) d = false ∧
    permitOf (withdrawPermit d s) (otherDrum d) = permitOf s (otherDrum d) ∧
    (withdrawPermit d s).cpl.drv = s.cpl.drv ∧ (withdrawPermit d s).cpl.changeover = s.cpl.changeover := by
  simp only [withdrawPermit]
  cases d <;> split <;> rename_i h <;> simp_all [permitOf, setPermit, otherDrum]

/-! ## The ends of a run (R45, R109, R110, R119, R128) -/

/-- R119: a part that shows no EMERGENCY entry does not trip at the end of a run. -/
theorem tripIfEmergency_quiet (s : State) (h : holdsAction .emergency s.prt.entries = false) :
    tripIfEmergency s = s := by
  simp [tripIfEmergency, h]

/-- R119: under an EMERGENCY entry the end of a run takes the EMERGENCY action. -/
theorem tripIfEmergency_shown (s : State) (h : holdsAction .emergency s.prt.entries = true) :
    tripIfEmergency s = emergencyAction s := by
  simp [tripIfEmergency, h]

/-- R45: a run whose search has found its mark ends ARRIVED. -/
theorem stopAtOnce_found (cause : WinderCause) (s : State) (h : runFound s = true) :
    stopAtOnce cause s = endRun .arrived s := by
  simp [stopAtOnce, h]

/-- R109, R110: any other run that is not in MOVING is suspended. -/
theorem stopAtOnce_suspends (cause : WinderCause) (s : State) (h : runFound s = false) :
    stopAtOnce cause s = suspendNow cause s := by
  simp [stopAtOnce, h]

/-- R128: under the exemption no conveyance of the drum shows OVERWIND. -/
@[simp] theorem overwound_exempt (s : State) (conv : Conveyance) : overwound true s conv = false := by
  simp [overwound]

end Sys2Proof.Machine
end

