-- ==== Sys2Proof/Laws/Step.lean ====
section
/-! SUPPORT. What a step can do, said once: an event's effect, a frame taken, and the acts of the blocks that
own the requests with the checks that each act has passed. An invariant of the part is proved by these cases. -/

namespace Sys2Proof.Machine

/-! ## Events -/

/-- The effect of a command that is no request, on a part under supply; POWER_UP is left out, since it acts on a
part without supply too. -/
def eventEffect : Instr → Option (State → State)
  | .resetLine lines => some (resetPart false lines)
  | .hostFrameDiscarded => some discardFrame
  | .byteGapTimeout => some byteGap
  | .framingError => some framingFault
  | .transmitComplete => some (fun s => s.onHlc sentFrame)
  | .restartReset lines => some (restartReset lines)
  | .stationPoll => some sendPoll
  | .stationAnswer answer => some (receiveAnswer answer)
  | .answerWindowExpiry => some windowEnds
  | .drumSample drum => some (sampleDrum drum)
  | .standstillReached drum => some (reachStandstill drum)
  | .markPulse comp => some (takePulse comp)
  | .encoderFaultLineAssert drum => some (faultLineRises drum)
  | .encoderFaultLineClear drum => some (faultLineFalls drum)
  | .clutchReadingChange drum reading => some (changeReading drum reading)
  | .clutchTimeExpiry drum => some (clutchTimeout drum)
  | .ultimateLimitChange comp opened => some (changeUltimate comp opened)
  | .slackRopeChange comp slack => some (changeSlack comp slack)
  | .torqueDelayExpiry => some torqueEnds
  | .brakeSetDelayExpiry => some brakeDelayEnds
  | .stopTimeLimitExpiry => some stopOverruns
  | .brakeStopDeadline drum => some (fadeEnds drum)
  | .retryTimerExpiry prot => some (retryEnds prot)
  | .pendingExpiry id => some (pendingEnds id)
  | .storeWriteComplete agrees => some (storeEnds agrees)
  | .hostByteTaken byte => some (takeByte byte)
  | .encoderEdge drum up pairs => some (countEdges drum up pairs)
  | .powerLoss => some losePower
  | _ => none

/-- An event acts on a part under supply by its effect. -/
theorem exec_event (i : Instr) (f : State → State) (h : eventEffect i = some f) (s : State) :
    exec i s = whenPowered f s := by
  cases i <;> simp only [eventEffect, reduceCtorEq, Option.some.injEq] at h <;> subst h <;> rfl

/-- A request acts as the frame that carries it, answered by the owner of its KIND. -/
theorem exec_request (i : Instr) (kind tag : Byte) (body : List Byte)
    (h : hostFrame i = some (kind, tag, body)) (s : State) :
    exec i s = hostRequest kind tag body (ownerOf kind) s := by
  cases i <;> simp only [hostFrame, reduceCtorEq, Option.some.injEq, Prod.mk.injEq] at h <;>
    obtain ⟨rfl, rfl, rfl⟩ := h <;> rfl

/-- Every command is POWER_UP, an event or a request. -/
theorem instr_kinds (i : Instr) : (∃ lines, i = .powerUp lines) ∨ (eventEffect i).isSome = true ∨
    (hostFrame i).isSome = true := by
  cases i <;> simp [eventEffect, hostFrame]

/-- Every command answers a next state: that of POWER_UP, the unchanged one of a part without supply, that of an
event, or that of a frame taken. -/
theorem exec_cases (i : Instr) (s : State) : ∃ t, exec i s = .next t ∧
    ((∃ lines, t = resetPart false lines s) ∨ (s.powered = false ∧ t = s) ∨
     (s.powered = true ∧ ∃ f, eventEffect i = some f ∧ t = f s) ∨
     (s.powered = true ∧ ∃ kind tag body, hostFrame i = some (kind, tag, body) ∧
       t = takeFrame kind tag body (ownerOf kind body s) s)) := by
  rcases instr_kinds i with ⟨lines, rfl⟩ | h | h
  · exact ⟨_, rfl, .inl ⟨lines, rfl⟩⟩
  · obtain ⟨f, hf⟩ := Option.isSome_iff_exists.1 h
    rw [exec_event i f hf]
    cases hp : s.powered
    · exact ⟨s, whenPowered_off _ _ hp, .inr (.inl ⟨rfl, rfl⟩)⟩
    · exact ⟨f s, whenPowered_on _ _ hp, .inr (.inr (.inl ⟨rfl, f, hf, rfl⟩))⟩
  · obtain ⟨⟨kind, tag, body⟩, hf⟩ := Option.isSome_iff_exists.1 h
    rw [exec_request i kind tag body hf]
    cases hp : s.powered
    · exact ⟨s, whenPowered_off _ _ hp, .inr (.inl ⟨rfl, rfl⟩)⟩
    · exact ⟨_, whenPowered_on _ _ hp, .inr (.inr (.inr ⟨rfl, kind, tag, body, hf, rfl⟩))⟩

/-! ## Frames -/

/-- R175 to R178: a frame changes nothing but the Host Link Controller, or is answered and acted on. -/
theorem takeFrame_cases (kind tag : Byte) (body : List Byte) (owner : Answer) (s : State)
    (hp : s.powered = true) :
    (∃ h, takeFrame kind tag body owner s = { s with hlc := h } ∧
      (h = s.hlc ∨ (s.hlc.drain = .off ∧
        (h = { s.hlc with hunter := .hunt, lastByte := s.now } ∨
         (refusalPlaces s.hlc < 4 ∧ h = wakeTx { s.hlc with
            hunter := .hunt, lastByte := s.now
            places := s.hlc.places ++ [⟨true, kind, tag, [resultByte .linkFull]⟩] }))))) ∨
    (linkOpen s = true ∧ takeFrame kind tag body owner s = (checkedAnswer kind body owner).act
      { s with hlc := answered s kind tag (checkedAnswer kind body owner).body }) := by
  cases hd : s.hlc.drain with
  | on keep => exact .inl ⟨s.hlc, by simp [takeFrame, hd], .inl rfl⟩
  | off =>
    by_cases hf : framePlaces s.hlc < 4
    · have ho := (linkOpen_iff s).2 ⟨hp, hd, hf⟩
      exact .inr ⟨ho, takeFrame_open _ _ _ _ _ ho⟩
    · refine .inl ?_
      by_cases hr : refusalPlaces s.hlc < 4
      · refine ⟨wakeTx { s.hlc with
            hunter := .hunt, lastByte := s.now
            places := s.hlc.places ++ [⟨true, kind, tag, [resultByte .linkFull]⟩] }, ?_,
          .inr ⟨rfl, .inr ⟨hr, rfl⟩⟩⟩
        simp only [takeFrame, hd]
        split
        · rename_i h'; exact absurd h' hf
        · split
          · rw [← hd]; rfl
          · rename_i h'; exact absurd hr h'
      · refine ⟨{ s.hlc with hunter := .hunt, lastByte := s.now }, ?_, .inr ⟨rfl, .inl rfl⟩⟩
        simp only [takeFrame, hd]
        split
        · rename_i h'; exact absurd h' hf
        · split
          · rename_i h'; exact absurd h' hr
          · rw [← hd]; rfl

/-! ## Owners -/

/-- The acts that the owners of the requests perform, each with the checks it has passed. -/
inductive OwnerAct (s : State) : (State → State) → Prop
  | nothing : OwnerAct s id
  | working (f : Configuration → Configuration) (hc : inCommission s = true) (hw : writing s = false) :
      OwnerAct s (onWorking f)
  | protection (p : Protection) (r : ProtRow) (hc : inCommission s = true) (hw : writing s = false) :
      OwnerAct s (writeProtection p r)
  | commit (hc : inCommission s = true) (hw : writing s = false)
      (hv : commitFailure (workingCfg s) = none) : OwnerAct s (putConfiguration (workingCfg s))
  | admitTrip (conv : Conveyance) (kind : Kind) (dest a b d : Nat)
      (h : admission s none a b (some d) = .inr (conv, kind, dest)) :
      OwnerAct s (joinQueue (admittedTrip s 0 conv kind dest))
  | confirm (t : Trip) (hc : inCommission s = false) (ht : tripById s t.id = some t)
      (hw : waiting t = true) : OwnerAct s (giveConsole t)
  | withdraw (t : Trip) (hc : inCommission s = false) (ht : tripById s t.id = some t)
      (ha : t.state ≠ .active) : OwnerAct s (withdrawTrip t)
  | start (t : Trip) (named : Option Nat) (h : startChoice s named = .inr t) : OwnerAct s (startTrip t)
  | stop (h : stoppable s.msq.winder = true) : OwnerAct s (stopRun .stop)
  | clear : OwnerAct s clearFaults
  | reconcile (d : Drum) (assumed : Int) (dir : Dir) (hc : inCommission s = false)
      (ht : tripTaken s = false) (hl : s.tqm.trips.length < 16) (hs : searchQueued s d = false) :
      OwnerAct s (reconcileDrum d assumed dir)
  | tighten (e : Edit) (hc : inCommission s = false) (ht : tightening (cfg s) e = true) :
      OwnerAct s (editNow e)
  | loosen (e : Edit) (hp : s.msq.winder = .parked) : OwnerAct s (editParked e)
  | stage (e : Edit) (hc : inCommission s = false) (hp : s.msq.winder ≠ .parked)
      (hr : isStaged s e = true ∨ s.pfu.staged.length < 8) : OwnerAct s (stageEdit e)
  | drop (hc : inCommission s = false) : OwnerAct s dropStaged
  | commission (hp : s.msq.winder = .parked) (hw : writing s = false) : OwnerAct s enterCommission
  | store (hw : writing s = false) (h : inCommission s = true ∨ s.msq.winder = .parked) :
      OwnerAct s beginStore
  | drain (hw : writing s = false) (h : restartable s.msq.winder = true) : OwnerAct s beginDrain

theorem tripById_id {s : State} {id : Nat} {t : Trip} (h : tripById s id = some t) : t.id = id := by
  simpa using List.find?_some h

theorem tripById_self {s : State} {id : Nat} {t : Trip} (h : tripById s id = some t) :
    tripById s t.id = some t := by rw [tripById_id h]; exact h

theorem tripById_mem {s : State} {id : Nat} {t : Trip} (h : tripById s id = some t) :
    t ∈ s.tqm.trips := List.mem_of_find?_eq_some h

/-- R194: an answer to a commissioning request passes BUSY and WRONG_STATE before its own act. -/
theorem inCommissioning_act (s : State) (own : Answer)
    (h : inCommission s = true → writing s = false → OwnerAct s own.act) :
    OwnerAct s (inCommissioning s own).act := by
  simp only [inCommissioning]
  split
  · exact .nothing
  · split
    · exact .nothing
    · apply h <;> simp_all

theorem putOrRemove_act {α : Type} (s : State) (op : Nat) (item : Option α)
    (remove : α → Configuration → Configuration) (put : α → Option (Configuration → Configuration))
    (hc : inCommission s = true) (hw : writing s = false) :
    OwnerAct s (putOrRemove op item remove put).act := by
  simp only [putOrRemove]
  repeat' split
  all_goals first
    | exact .nothing
    | exact .working _ hc hw

theorem answerEdit_act (s : State) (e : Edit) (hc : inCommission s = false) :
    OwnerAct s (answerEdit e s).act := by
  simp only [answerEdit]
  split
  · exact .tighten e hc ‹_›
  · split
    · exact .loosen e ‹_›
    · split
      · exact .stage e hc ‹_› (.inl ‹_›)
      · split
        · exact .nothing
        · exact .stage e hc ‹_› (.inr (by omega))

/-- What the owner of a request of any kind may do to the part. -/
theorem ownerOf_act (kind : Byte) (body : List Byte) (s : State) :
    OwnerAct s (ownerOf kind body s).act := by
  have query : ∀ a : Answer, a.act = id → OwnerAct s a.act := fun a h => h ▸ .nothing
  unfold ownerOf
  split
  · refine inCommissioning_act s _ (fun hc hw => ?_)
    repeat' split
    all_goals first | exact .nothing | exact .working _ hc hw
  · exact inCommissioning_act s _ (putOrRemove_act s _ _ _ _)
  · exact inCommissioning_act s _ (putOrRemove_act s _ _ _ _)
  · exact inCommissioning_act s _ (putOrRemove_act s _ _ _ _)
  · exact inCommissioning_act s _ (putOrRemove_act s _ _ _ _)
  · exact inCommissioning_act s _ (putOrRemove_act s _ _ _ _)
  · refine inCommissioning_act s _ (fun hc hw => ?_)
    repeat' split
    all_goals first | exact .nothing | exact .protection _ _ hc hw
  · exact inCommissioning_act s _ (fun hc hw => .working _ hc hw)
  · refine inCommissioning_act s _ (fun hc hw => ?_)
    split
    · exact .nothing
    · exact .commit hc hw ‹_›
  · simp only [ownRequestTrip]
    split
    · exact .nothing
    · exact .admitTrip _ _ _ _ _ _ ‹_›
  · simp only [ownConfirmTrip]
    repeat' split
    all_goals first
      | exact .nothing
      | exact .confirm _ (by simp_all) (tripById_self ‹_›) (by simp_all)
  · simp only [ownWithdrawTrip]
    repeat' split
    all_goals first
      | exact .nothing
      | exact .withdraw _ (by simp_all) (tripById_self ‹_›) ‹_›
  · simp only [ownStart]
    split
    · exact .nothing
    · exact .start _ _ ‹_›
  · simp only [ownStop]
    split
    · exact .stop ‹_›
    · exact .nothing
  · exact .clear
  · simp only [ownReconcile]
    repeat' split
    all_goals first
      | exact .nothing
      | exact .reconcile _ _ _ (by simp_all) (by simp_all) (by omega) (by simp_all)
  · simp only [ownEdit]
    repeat' split
    all_goals first
      | exact .nothing
      | exact answerEdit_act s _ (by simp_all)
  · simp only [ownDropEdits]
    split
    · exact .nothing
    · exact .drop (by simp_all)
  · simp only [ownEnterCommission]
    repeat' split
    all_goals first
      | exact .nothing
      | exact .commission ‹_› (by simp_all)
  · simp only [ownStore]
    repeat' split
    all_goals first
      | exact .nothing
      | exact .store (by simp_all) (by simp_all)
  · simp only [ownRestart]
    repeat' split
    all_goals first
      | exact .nothing
      | exact .drain (by simp_all) ‹_›
  all_goals first
    | exact .nothing
    | (simp only [ownGetPositions, ownGetQueue, ownGetTrip, ownGetFaults, ownGetStations, ownGetParam,
        ownGetLevel, ownGetZone, ownGetProtection, answerIf]
       repeat' split
       all_goals exact .nothing)

/-- What a frame that the link takes does: its owner's act, on the part with the reply formed, or nothing. -/
theorem checkedAnswer_act (kind : Byte) (body : List Byte) (s : State) :
    OwnerAct s (checkedAnswer kind body (ownerOf kind body s)).act := by
  simp only [checkedAnswer]
  repeat' split
  all_goals first
    | exact .nothing
    | exact ownerOf_act kind body s

end Sys2Proof.Machine
end

