-- ==== Sys2Proof/Laws/Resets.lean ====
section
/-! SUPPORT. What a reset does: nothing is raised after it where no line, fault line or kept miss count calls for
a raise (R152), and the queue of waiting commands is left. -/

namespace Sys2Proof.Machine

@[simp] theorem raiseAtReset_pending (s : State) : (raiseAtReset s).pending = s.pending := by simp

@[simp] theorem resetPart_pending (keep : Bool) (lines : LineLevels) (s : State) :
    (resetPart keep lines s).pending = s.pending := by simp [resetPart, resetBlocks]

/-- R152: where nothing is found at the reset, nothing is raised. -/
theorem raiseAtReset_quiet (s : State) (hu : s.prt.ultC = false ∧ s.prt.ultW = false ∧ s.prt.ultS = false)
    (hs : s.prt.slkC = false ∧ s.prt.slkW = false ∧ s.prt.slkS = false)
    (hm : ∀ conv, missedKept s conv = false)
    (hf : s.dpt.drum1.faultLine = false ∧ s.dpt.drum2.faultLine = false) : raiseAtReset s = s := by
  obtain ⟨u1, u2, u3⟩ := hu
  obtain ⟨k1, k2, k3⟩ := hs
  simp [raiseAtReset, presentIf, u1, u2, u3, k1, k2, k3, allConveyances, hm, faultIf, drumTrack, hf.1, hf.2]

end Sys2Proof.Machine
end

