-- ==== Sys2Proof/WellFormed.lean ====
section
/-! DEFINITION. Which commands can reach the part: a frame's body holds 0 to 56 bytes (section 8.1),
UNKNOWN_KIND carries a kind that names no request (R178), a trip id is 1 to 255 (section 3.1), a station's
answer comes as bytes, and a run of edges is not empty (R22). -/

namespace Sys2Proof

/-- Section 8.1: a body that a frame can hold. -/
def bodyFits (body : List Byte) : Bool := decide (body.length ≤ 56)

/-- R178, R201: the kind names no request. -/
def namesNoRequest (kind : Byte) : Bool := (Machine.requestLengths kind).isNone

/-- The command is one that can reach the part. -/
def WellFormed : Instr → Bool
  | .powerUp _ => true
  | .resetLine _ => true
  | .setParam _ body => bodyFits body
  | .putLevel _ body => bodyFits body
  | .putZone _ body => bodyFits body
  | .putRetardRow _ body => bodyFits body
  | .putMark _ body => bodyFits body
  | .putStation _ body => bodyFits body
  | .setProtection _ body => bodyFits body
  | .clearConfig _ body => bodyFits body
  | .commit _ body => bodyFits body
  | .requestTrip _ body => bodyFits body
  | .confirmTrip _ body => bodyFits body
  | .withdrawTrip _ body => bodyFits body
  | .start _ body => bodyFits body
  | .stop _ body => bodyFits body
  | .clearFaults _ body => bodyFits body
  | .reconcile _ body => bodyFits body
  | .edit _ body => bodyFits body
  | .dropEdits _ body => bodyFits body
  | .enterCommission _ body => bodyFits body
  | .store _ body => bodyFits body
  | .restart _ body => bodyFits body
  | .getState _ body => bodyFits body
  | .getPositions _ body => bodyFits body
  | .getQueue _ body => bodyFits body
  | .getTrip _ body => bodyFits body
  | .getFaults _ body => bodyFits body
  | .getFirstOut _ body => bodyFits body
  | .getStations _ body => bodyFits body
  | .getEdits _ body => bodyFits body
  | .getParam _ body => bodyFits body
  | .getLevel _ body => bodyFits body
  | .getZone _ body => bodyFits body
  | .getProtection _ body => bodyFits body
  | .unknownKind kind _ body => namesNoRequest kind && bodyFits body
  | .hostFrameDiscarded => true
  | .byteGapTimeout => true
  | .framingError => true
  | .transmitComplete => true
  | .restartReset _ => true
  | .stationPoll => true
  | .stationAnswer _ => true
  | .answerWindowExpiry => true
  | .drumSample _ => true
  | .standstillReached _ => true
  | .markPulse _ => true
  | .encoderFaultLineAssert _ => true
  | .encoderFaultLineClear _ => true
  | .clutchReadingChange _ _ => true
  | .clutchTimeExpiry _ => true
  | .ultimateLimitChange _ _ => true
  | .slackRopeChange _ _ => true
  | .torqueDelayExpiry => true
  | .brakeSetDelayExpiry => true
  | .stopTimeLimitExpiry => true
  | .brakeStopDeadline _ => true
  | .retryTimerExpiry _ => true
  | .pendingExpiry id => decide (1 ≤ id) && decide (id ≤ 255)
  | .storeWriteComplete _ => true
  | .hostByteTaken _ => true
  | .encoderEdge _ _ pairs => decide (1 ≤ pairs)
  | .powerLoss => true

end Sys2Proof
end

