-- ==== Sys2Proof/Tests/Slice0.lean ====
section
/-! SUPPORT. The author's own tests: the well-formedness checks refuse ill-formed commands, and for each statement
of Certificates/Slice0/Obligations.lean concrete states meet the hypotheses of every clause. Most of them also
check what the command then does. -/

namespace Sys2Proof.Tests

set_option Elab.async false

open Sys2Proof Sys2Proof.Machine

/-! ## Well-formedness -/

/-- A body that no frame can hold. -/
def longBody : List Byte := List.replicate 57 0

theorem test_wellFormed_bodies :
    WellFormed (.setParam 0 longBody) = false ∧ WellFormed (.putLevel 0 longBody) = false ∧
    WellFormed (.putZone 0 longBody) = false ∧ WellFormed (.putRetardRow 0 longBody) = false ∧
    WellFormed (.putMark 0 longBody) = false ∧ WellFormed (.putStation 0 longBody) = false ∧
    WellFormed (.setProtection 0 longBody) = false ∧ WellFormed (.clearConfig 0 longBody) = false ∧
    WellFormed (.commit 0 longBody) = false ∧ WellFormed (.requestTrip 0 longBody) = false ∧
    WellFormed (.confirmTrip 0 longBody) = false ∧ WellFormed (.withdrawTrip 0 longBody) = false ∧
    WellFormed (.start 0 longBody) = false ∧ WellFormed (.stop 0 longBody) = false ∧
    WellFormed (.clearFaults 0 longBody) = false ∧ WellFormed (.reconcile 0 longBody) = false ∧
    WellFormed (.edit 0 longBody) = false ∧ WellFormed (.dropEdits 0 longBody) = false ∧
    WellFormed (.enterCommission 0 longBody) = false ∧ WellFormed (.store 0 longBody) = false ∧
    WellFormed (.restart 0 longBody) = false := by decide

theorem test_wellFormed_queries :
    WellFormed (.getState 0 longBody) = false ∧ WellFormed (.getPositions 0 longBody) = false ∧
    WellFormed (.getQueue 0 longBody) = false ∧ WellFormed (.getTrip 0 longBody) = false ∧
    WellFormed (.getFaults 0 longBody) = false ∧ WellFormed (.getFirstOut 0 longBody) = false ∧
    WellFormed (.getStations 0 longBody) = false ∧ WellFormed (.getEdits 0 longBody) = false ∧
    WellFormed (.getParam 0 longBody) = false ∧ WellFormed (.getLevel 0 longBody) = false ∧
    WellFormed (.getZone 0 longBody) = false ∧ WellFormed (.getProtection 0 longBody) = false ∧
    WellFormed (.unknownKind 0x55 0 longBody) = false := by decide

theorem test_wellFormed_operands :
    WellFormed (.unknownKind 0x01 0 []) = false ∧ WellFormed (.unknownKind 0x55 0 []) = true ∧
    WellFormed (.pendingExpiry 0) = false ∧ WellFormed (.pendingExpiry 256) = false ∧
    WellFormed (.pendingExpiry 255) = true ∧ WellFormed (.encoderEdge .d1 true 0) = false ∧
    WellFormed (.encoderEdge .d1 true 1) = true := by decide

/-! ## Small states -/

def allMask : Mask := ⟨true, true, true, true, true, true, true, true, true, true⟩

/-- One count a cm on both drums, two levels, one station for each role but TIP. -/
def config : Configuration := { defaultConfiguration with
  params := { Params.default with counts1 := 1000, counts2 := 1000, cwBase := 1000, linkSum := 1000 }
  levels := [(0, ⟨true, some 0, none⟩), (1, ⟨true, some 100, some 100⟩)]
  zones := [(1, ⟨.c, 20, 50, 300, true⟩), (2, ⟨.s, 20, 50, 300, false⟩)]
  retard1 := [(1, ⟨20, 400⟩), (2, ⟨150, 500⟩)]
  marksC := [(1, 50)]
  marksW := [(1, 950)]
  marksS := [(1, 50)]
  stations := [(1, ⟨.bank, some 0, allMask⟩), (2, ⟨.level, some 1, allMask⟩),
    (3, ⟨.loading, some 1, allMask⟩), (4, ⟨.cagePanel, none, allMask⟩)] }

def online : Station := ⟨.online, 0, 0, false, false, none⟩

def placed : ConvTrack := { ConvTrack.fresh with pos := .reconciled }

def standing : DrumTrack := { DrumTrack.fresh 0 false with quiet := 20, standstill := true }

/-- In PARKED with the configuration in force, every station ONLINE with gates closed, every conveyance
RECONCILED at the bank, drum 1 engaged. -/
def parked : State := { State.reset with
  now := 1000
  slc := { Slc.fresh config.stations with stations := config.stations.map (fun p => (p.1, online)) }
  dpt := ⟨standing, standing, placed, placed, placed, none⟩
  tqm := { Tqm.reset with originCage := .atLevel 0, originSkip := .outside }
  msq := Msq.fresh .parked
  cpl := Cpl.fresh .atEngaged .atFree
  cfs := { image := Image.blank, write := none, working := none, inForce := some config } }

/-- In COMMISSION with the configuration as working configuration. -/
def comm : State := { State.reset with
  cfs := { State.reset.cfs with working := some config } }

def winderAs (w : Winder) (s : State) : State := { s with msq := { s.msq with winder := w } }

def withTrips (ts : List Trip) (s : State) : State := { s with tqm := { s.tqm with trips := ts } }

/-- A trip of id 5 to level 1, or a search. -/
def trip (kind : Kind) (conv : Conveyance) (state : TripState) (held : Confs) : Trip := {
  id := 5, kind := kind, conv := conv, dest := if kind = .search then none else some 1, requester := 0
  required := requiredFor kind, held := held, state := state, requestedAt := 500, orphaned := false
  step := if kind = .search then 1 else 0 }

def readyTrip : Trip := trip .material .cage .ready (requiredFor .material)

def activeMaterial : Trip := trip .material .cage .active (requiredFor .material)

def searching : Trip := trip .search .cage .active (requiredFor .search)

/-- A run of the material trip in a winder state. -/
def run (w : Winder) : State :=
  let s := withTrips [activeMaterial] parked
  { s with
    msq := { s.msq with winder := w, current := some 5, direction := some .down }
    cpl := { s.cpl with drv := true, brk1 := true }
    dpt := { s.dpt with drum1 := { standing with standstill := false } } }

/-- An entry of a protection. -/
def entry (p : Protection) (a : Action) (r : Recovery) (isHeld : Bool) : FaultEntry := {
  prot := p, action := a, recovery := r, retryTime := 10, subjects := setOne 1, isHeld := isHeld
  raisedAt := 0, deadline := if isHeld && r = .retry then some 2000 else none }

def withEntries (es : List FaultEntry) (s : State) : State := { s with
  prt := { s.prt with entries := es, firstOut := some (firstOutNow s .overspeed 1) }
  cpl := { s.cpl with block := holdsAction .emergency es } }

def lines : LineLevels :=
  ⟨true, false, false, true, false, false, true, true, true, false, false, false⟩

/-- The state that a command leaves. -/
def after (i : Instr) (s : State) : State :=
  match exec i s with
  | .next t => t
  | .fault _ => s
  | .refused _ => s

/-- An answer of station 2 with a good check byte. -/
def answer (status signal arg1 arg2 arg3 : Byte) : StationAnswer :=
  ⟨0x5A, 2, status, signal, arg1, arg2, arg3, frameCheck [2, status, signal, arg1, arg2, arg3], false⟩

/-- Station 2 has been polled. -/
def polled (s : State) : State := { s with
  slc := { s.slc with exchange := some ⟨2, none, 0, none, s.now + 10⟩ } }

def station2 (f : Station → Station) (s : State) : State := onStation 2 f s

/-! ## Steps, resets and supply -/

theorem test_StepRunsFrontCommand_met :
    step { parked with pending := [.clearFaults 1 [], .stop 1 []] } =
      exec (.clearFaults 1 []) { parked with pending := [.stop 1 []] } := rfl

theorem test_IdleAndUnpoweredSteps_met :
    parked.pending = [] ∧ step { parked with now := 2 ^ 48 - 1 } = .next { parked with now := 0 } ∧
    (∀ l, Instr.stop 1 [] ≠ .powerUp l) ∧
    after (.stop 1 []) { parked with powered := false } = { parked with powered := false } :=
  ⟨rfl, rfl, by intro l; simp, by decide +kernel⟩

theorem test_ResetState : State.reset.cpl.brk1 = false ∧ State.reset.cfs.working = some defaultConfiguration ∧
    linkBounded State.reset ∧ queueSound State.reset := by
  refine ⟨rfl, rfl, ?_, ?_⟩
  · unfold linkBounded; decide
  · unfold queueSound; simp [State.reset, Tqm.reset]

theorem test_PowerUpAndResetLine_met :
    quietLines lines = true ∧ comm.powered = true ∧ comm.cfs.image.mark = false ∧
    after (.resetLine lines) comm = after (.powerUp lines) comm ∧
    (after (.powerUp lines) comm).cpl.clutch2 = ⟨.atFree, .free, none⟩ := by decide +kernel

/-- With the mark of the image clear the premise on the miss limit holds of itself. -/
theorem test_PowerUp_image : comm.cfs.image.valid = false := by
  simp [comm, State.reset, Cfs.reset, Image.blank, Image.valid]

theorem test_SupplyAndReset_met :
    (after (.powerUp { lines with ultC := false, slkW := true, ef1 := true }) parked).cpl.block = true ∧
    isPresent (after (.powerUp { lines with ultC := false }) parked) .ultimateLimit 1 = true ∧
    (run (.running .moving)).powered = true ∧
    (after .powerLoss (run (.running .moving))).cpl.brk1 = false ∧
    (after .powerLoss (run (.running .moving))).powered = false := by decide +kernel

/-- A part whose RESTART reply is the only one left. -/
def draining : State := { parked with
  hlc := { parked.hlc with places := [⟨false, 0x1B, 1, [0]⟩], tx := .reply, drain := .on true }
  cfs := { parked.cfs with image := ⟨config, configCheck config, true⟩ } }

theorem test_RestartReset_met :
    draining.powered = true ∧ quietLines lines = true ∧ draining.hlc.drain = .on true ∧
    draining.hlc.places.length = 1 ∧ draining.hlc.tx = .reply ∧ draining.cfs.write = none ∧
    draining.cfs.image.valid = true ∧
    (∀ conv, ((convTrack draining conv).misses : Int) < draining.cfs.image.content.params.missLimit) ∧
    1 ≤ draining.cfs.image.content.params.missLimit := by
  refine ⟨rfl, rfl, rfl, rfl, rfl, rfl, ?_, ?_, by decide⟩
  · simp [draining, Image.valid]
  · intro conv; cases conv <;> decide

theorem test_RestartReset_invalid :
    let s := { draining with cfs := { draining.cfs with image := Image.blank } }
    s.cfs.image.mark = false ∧ s.hlc.drain = .on true ∧
    (after (.restartReset lines) { s with
      dpt := { s.dpt with drum1 := { s.dpt.drum1 with count := 7 } } }).msq.winder = .commission ∧
    (after (.restartReset lines) { s with
      dpt := { s.dpt with drum1 := { s.dpt.drum1 with count := 7 } } }).dpt.drum1.count = 7 ∧
    posOf (after (.restartReset lines) s) .cage = .unknown := by decide +kernel

/-! ## The host link -/

theorem test_HostByte_met :
    parked.hlc.drain = .off ∧ parked.hlc.lastByte + 25 < parked.now ∧
    (after (.hostByteTaken 0xD2) parked).hlc.hunter = .syncSeen ∧
    (after (.hostByteTaken 0x4E) { parked with
      hlc := { parked.hlc with hunter := .syncSeen, lastByte := 990 } }).hlc.hunter = .len ∧
    after (.hostByteTaken 0xD2) draining = draining := by
  refine ⟨by decide, by decide, by decide +kernel, by decide +kernel, ?_⟩
  rfl

theorem test_DiscardedFrames_met :
    (after .hostFrameDiscarded parked).hlc.lastByte = 1000 ∧
    (after .byteGapTimeout { parked with hlc := { parked.hlc with hunter := .len, lastByte := 990 } }).now =
      1015 ∧ after .byteGapTimeout parked = parked ∧
    (after .framingError { parked with hlc := { parked.hlc with hunter := .len } }).hlc.hunter = .hunt := by
  decide +kernel

/-- The hunter has a whole CLEAR_FAULTS request but for its CHECK byte. -/
def checking : State := { parked with
  hlc := { parked.hlc with hunter := .check 0 0x15 7 [], lastByte := 999 } }

theorem test_FramesAreJudged_met :
    checking.powered = true ∧ checking.hlc.drain = .off ∧ checking.now ≤ checking.hlc.lastByte + 25 ∧
    hostFrame (.clearFaults 7 []) = some (0x15, 7, []) ∧
    after (.hostByteTaken (frameCheck [0, 0x15, 7])) checking = after (.clearFaults 7 []) checking ∧
    after (.hostByteTaken 0) checking ≠ after (.clearFaults 7 []) checking := by decide +kernel

theorem test_UnfitFrames_met :
    linkOpen parked = true ∧ requestLengths 0x55 = none ∧
    (after (.unknownKind 0x55 9 [1]) parked).hlc.places = [⟨false, 0x55, 9, [1]⟩] ∧
    hostFrame (.stop 9 [1]) = some (0x14, 9, [1]) ∧ requestLengths 0x14 = some [0] ∧
    (after (.stop 9 [1]) parked).hlc.places = [⟨false, 0x14, 9, [2]⟩] := by decide +kernel

/-- Four requests stand in the frame places. -/
def full : State := { parked with
  hlc := { parked.hlc with places := List.replicate 4 ⟨false, 0x14, 1, [3]⟩, tx := .reply } }

theorem test_Buffers_met :
    full.powered = true ∧ framePlaces full.hlc = 4 ∧ full.hlc.tx ≠ .idle ∧ refusalPlaces full.hlc = 0 ∧
    (after (.stop 2 []) full).hlc.places.length = 5 ∧
    refusalPlaces { full.hlc with places := full.hlc.places ++ List.replicate 4 ⟨true, 1, 1, [0x11]⟩ } = 4 ∧
    full.hlc.notices.length < 32 ∧ 32 ≤ (List.replicate 32 (⟨.edit .parked [] none, false⟩ : Queued)).length := by
  decide +kernel

theorem test_Transmitter_met :
    full.hlc.places.tail ≠ [] ∧ (after .transmitComplete full).hlc.places.length = 3 ∧
    (after .transmitComplete { parked with
      hlc := { parked.hlc with tx := .reply, places := [⟨false, 1, 1, [0]⟩],
                               notices := [⟨.edit .parked [] none, true⟩] } }).hlc.tx =
      .notice ⟨.edit .parked [] none, true⟩ ∧
    (after .transmitComplete { parked with
      hlc := { parked.hlc with tx := .reply, places := [⟨false, 1, 1, [0]⟩] } }).hlc.tx = .idle := by
  decide +kernel

/-! ## Commissioning -/

theorem test_SetParamAndClearConfig_met :
    linkOpen comm = true ∧ comm.msq.winder = .commission ∧ comm.cfs.write = none ∧
    comm.cfs.working = some config ∧ paramRow 25 = some ⟨5, 2, 30⟩ ∧
    (after (.setParam 7 (put8 25 ++ put32 30)) comm).cfs.working =
      some { config with params := { config.params with stopWindow := 30 } } ∧
    (after (.clearConfig 7 []) comm).cfs.working = some defaultConfiguration := by decide +kernel

theorem test_PutLevelAndZone_met :
    (after (.putLevel 7 (put8 39 ++ put8 1 ++ putBool true ++ putOpt32 (some (-3000)) ++ putOpt32 none))
      comm).cfs.working.map (fun c => tableGet 39 c.levels) = some (some ⟨true, some (-3000), none⟩) ∧
    (after (.putZone 7 (put8 24 ++ put8 1 ++ put8 (compNumber .w) ++ put32 (-3000) ++ put32 400000 ++
      put16 2000 ++ putBool false)) comm).cfs.working.map (fun c => tableGet 24 c.zones) =
      some (some ⟨.w, -3000, 400000, 2000, false⟩) := by decide +kernel

theorem test_PutRetardRowMarkAndStation_met :
    (after (.putRetardRow 7 (put8 (drumNumber .d2) ++ put8 8 ++ put8 1 ++ put32 400000 ++ put16 2000))
      comm).cfs.working.map (fun c => tableGet 8 c.retard2) = some (some ⟨400000, 2000⟩) ∧
    (after (.putMark 7 (put8 (compNumber .s) ++ put8 12 ++ put8 1 ++ put32 400000)) comm).cfs.working.map
      (fun c => tableGet 12 c.marksS) = some (some 400000) ∧
    (after (.putStation 7 (put8 24 ++ put8 1 ++ put8 (roleNumber .tip) ++ putLevelNumber (some 39) ++
      putMask allMask)) comm).cfs.working.map (fun c => tableGet 24 c.stations) =
      some (some ⟨.tip, some 39, allMask⟩) ∧
    (after (.putStation 7 (put8 4 ++ put8 1 ++ put8 (roleNumber .cagePanel) ++ putLevelNumber none ++
      putMask allMask)) comm).hlc.places = [⟨false, 6, 7, [0]⟩] := by decide +kernel

theorem test_PutRequestsRemove_met :
    (after (.putLevel 7 (put8 1 ++ put8 0 ++ List.replicate 9 0xFF)) comm).cfs.working.map
      (fun c => c.levels.length) = some 1 ∧
    (after (.putZone 7 (put8 2 ++ put8 0 ++ List.replicate 12 0xFF)) comm).cfs.working.map
      (fun c => c.zones.length) = some 1 ∧
    (after (.putRetardRow 7 (put8 2 ++ put8 1 ++ put8 0 ++ List.replicate 6 0xFF)) comm).cfs.working.map
      (fun c => c.retard2) = some [] ∧
    (after (.putMark 7 (put8 2 ++ put8 1 ++ put8 0 ++ List.replicate 4 0xFF)) comm).cfs.working.map
      (fun c => c.marksW) = some [] ∧
    (after (.putStation 7 (put8 4 ++ put8 0 ++ List.replicate 5 0xFF)) comm).cfs.working.map
      (fun c => c.stations.length) = some 3 := by decide +kernel

theorem test_PutRequestsRemove_bounds :
    (after (.putLevel 7 (put8 0 ++ put8 0 ++ List.replicate 9 0xFF)) comm).cfs.working.map
      (fun c => c.levels.map (fun p => p.1)) = some [1] ∧
    (after (.putRetardRow 7 (put8 (drumNumber .d1) ++ put8 2 ++ put8 0 ++ List.replicate 6 0)) comm).cfs.working.map
      (fun c => c.retard1) = some [(1, ⟨20, 400⟩)] ∧
    (after (.putMark 7 (put8 (compNumber .c) ++ put8 1 ++ put8 0 ++ List.replicate 4 0)) comm).cfs.working.map
      (fun c => (c.marksC, c.marksW.length)) = some ([], 1) ∧
    (after (.putMark 7 (put8 (compNumber .s) ++ put8 12 ++ put8 0 ++ List.replicate 4 0)) comm).cfs.working.map
      (fun c => c.marksS.length) = some 1 := by decide +kernel

theorem test_SetProtection_met :
    Action.controlled ∈ actionsAllowed .overspeed ∧ Recovery.retry ∈ recoveriesAllowed .overspeed ∧
    (after (.setProtection 7 (put8 1 ++ put8 (actionNumber .controlled) ++ put8 (recoveryNumber .retry) ++
      put8 60)) comm).cfs.working.map (fun c => protRow c .overspeed) = some ⟨.controlled, .retry, 60⟩ ∧
    Action.off ∈ actionsAllowed .markMissed ∧ Recovery.self ∈ recoveriesAllowed .markMissed ∧
    entryOf comm .markMissed = none ∧
    (after (.setProtection 7 (put8 6 ++ put8 (actionNumber .off) ++ put8 (recoveryNumber .self) ++ put8 1))
      (withEntries [entry .markMissed .report .self false] comm)).prt.entries = [] := by decide +kernel

theorem test_CommissioningRefusals_met :
    linkOpen parked = true ∧ commissioningKind 0x08 = true ∧ requestLengths 0x08 = some [0] ∧
    (after (.clearConfig 7 []) parked).hlc.places = [⟨false, 8, 7, [3]⟩] ∧
    (after (.clearConfig 7 []) { comm with
      cfs := { comm.cfs with write := some ⟨none, .clearing, 0⟩ } }).hlc.places = [⟨false, 8, 7, [0x0E]⟩] ∧
    commitFailure defaultConfiguration = some (1, 1) ∧
    commitFailure { config with params := { config.params with counts2 := 0 } } = some (1, 2) := by
  decide +kernel

theorem test_CommissioningRefusals_checks :
    let p := config.params
    tablesSound config = true ∧ (∀ m ∈ config.marksC ++ config.marksW ++ config.marksS, m.1 ≤ 12) ∧
    commitFailure { config with levels := [(0, ⟨true, some 9, none⟩), (3, ⟨false, some 9, none⟩)] } =
      some (2, 3) ∧
    commitFailure { config with params := { p with cwTop := 7, cwBottom := 7 } } = some (3, 2) ∧
    commitFailure { config with params := { p with cageBottom := 99 } } = some (3, 65) ∧
    commitFailure { config with params := { p with cwTop := 901 } } = some (4, 1) ∧
    commitFailure { config with marksS := [(1, 50), (4, 50 + 2 * p.suspectTol)] } = some (5, 36) ∧
    commitFailure { config with params := { p with snapTol := p.suspectTol } } = some (6, 0) ∧
    commitFailure { config with retard2 := [(2, ⟨20, 400⟩)] } = some (7, 2) ∧
    commitFailure { config with zones := [(5, ⟨.s, 20, p.skipBottom - 19, 9, false⟩)] } = some (8, 5) ∧
    commitFailure { config with stations := [(2, ⟨.bank, some 1, allMask⟩), (3, ⟨.level, some 1, allMask⟩)] } =
      some (9, 3) ∧
    commitFailure { config with params := { p with creepSpeed := p.inspectSpeed } } = some (10, 4) := by
  decide +kernel

theorem test_CommitPutsConfiguration_met :
    commitFailure config = none ∧ comm.prt.entries = [] ∧ presence comm .markMissed = 0 ∧
    comm.pfu.staged = [] ∧ comm.cfs.inForce = none ∧ 1 ≤ config.params.missLimit ∧
    (after (.commit 7 []) comm).msq.winder = .parked ∧ comm.tqm.trips = [] ∧
    comm.msq.current = none ∧ comm.msq.ceiling = ⟨0, .none, none, none⟩ ∧
    (after (.commit 7 []) comm).hlc =
      queueAll [.winder .commit .commission .parked 0 0] (answered comm 0x09 7 [0x00]) ∧
    (after (.commit 7 []) comm).cfs.inForce = some config := by decide +kernel

/-- In COMMISSION with the configuration in force, as ENTER_COMMISSION leaves it. -/
def entered : State := after (.enterCommission 7 []) parked

theorem test_Commit_keepsPositions :
    entered.cfs.inForce = some config ∧ entered.cfs.working = some config ∧ entered.tqm.trips = [] ∧
    sameBasis config config = true ∧ posOf (after (.commit 7 []) entered) .cage = .reconciled ∧
    (after (.commit 7 []) entered).tqm.originCage = .atLevel 0 ∧
    (∀ conv ∈ allConveyances, ((convTrack entered conv).misses : Int) < config.params.missLimit) := by
  decide +kernel

/-- The configuration with a row of the protection table of its own. -/
def withRow (p : Protection) (r : ProtRow) : State := { comm with
  cfs := { comm.cfs with working := some (setProtRow p r config) } }

theorem test_Commit_alignsEntries :
    let held := entry .slackRope .emergency .latched true
    let committed (r : ProtRow) (e : FaultEntry) : State :=
      after (.commit 7 []) (withEntries [e] (withRow .slackRope r))
    (withEntries [held] comm).cpl.block = true ∧
    (committed ⟨.off, .latched, 1⟩ held).prt.entries = [] ∧
    (committed ⟨.report, .self, 1⟩ held).prt.entries = [] ∧
    (committed ⟨.controlled, .latched, 9⟩ held).prt.entries =
      [{ held with action := .controlled, retryTime := 9 }] ∧
    (committed ⟨.controlled, .latched, 9⟩ held).cpl.block = false ∧
    (committed ⟨.emergency, .retry, 9⟩ held).prt.entries =
      [{ held with recovery := .retry, retryTime := 9, deadline := some 9000 }] ∧
    (committed ⟨.emergency, .retry, 9⟩ held).msq.winder = .tripped := by decide +kernel

theorem test_Commit_removedKeepsItsRow :
    let held := entry .slackRope .emergency .latched true
    let s := after (.commit 7 []) (withEntries [held] (withRow .slackRope ⟨.controlled, .self, 1⟩))
    ((s.hlc.notices.head?).map (fun q => q.notice)) =
      some (.fault .removed (some .config) { held with subjects := 0 } 0 0 false) := by decide +kernel

/-! ## Trips -/

theorem test_RequestTrip_met :
    linkOpen parked = true ∧ parked.msq.winder ≠ .commission ∧ parked.tqm.trips.length < 16 ∧
    tableGet 1 (cfg parked).levels = some ⟨true, some 100, some 100⟩ ∧
    posOf parked .cage ≠ .unknown ∧ (cfg parked).params.cwTop ≤ (cfg parked).params.linkSum - 100 ∧
    (cfg parked).params.linkSum - 100 ≤ (cfg parked).params.cwBottom ∧
    (after (.requestTrip 7 (put8 1 ++ put8 2 ++ put8 1)) parked).tqm.trips.map (fun t => (t.id, t.state)) =
      [(1, .pending)] ∧
    (after (.requestTrip 7 (put8 3 ++ put8 3 ++ put8 1)) parked).tqm.trips.map (fun t => (t.id, t.state)) =
      [(1, .ready)] := by decide +kernel

def pendingTrip : Trip := trip .material .cage .pending ⟨true, false, false, false⟩

theorem test_ConfirmTrip_met :
    let s := withTrips [pendingTrip] parked
    linkOpen s = true ∧ s.tqm.trips.filter (fun u => decide (u.id = 5)) = [pendingTrip] ∧
    pendingTrip.required.console = true ∧ pendingTrip.held.console = false ∧
    (after (.confirmTrip 7 (put8 5)) s).tqm.trips.map (fun t => t.state) = [.ready] ∧
    waiting readyTrip = true ∧ readyTrip.held.console = true ∧
    (after (.confirmTrip 7 (put8 5)) (withTrips [readyTrip] parked)).hlc.places =
      [⟨false, 0x11, 7, [0, 2]⟩] := by decide +kernel

theorem test_WithdrawTrip_met :
    (after (.withdrawTrip 7 (put8 5)) (withTrips [readyTrip] parked)).tqm.trips = [] ∧
    (after (.withdrawTrip 7 (put8 5)) (run (.running .moving))).hlc.places =
      [⟨false, 0x12, 7, [0x0C]⟩] ∧
    let s := winderAs .halted (withTrips [{ activeMaterial with state := .suspended }]
      { parked with pfu := ⟨[.zoneCeiling 1 400]⟩ })
    linkOpen s = true ∧ s.tqm.trips.filter (fun u => decide (u.id = 5)) =
      [{ activeMaterial with state := .suspended }] ∧
    (after (.withdrawTrip 7 (put8 5)) s).msq.winder = .parked ∧
    (after (.withdrawTrip 7 (put8 5)) s).cfs.inForce = some (writeEdit config (.zoneCeiling 1 400)) := by
  decide +kernel

/-! ## START and STOP -/

theorem test_StartEntersProving_met :
    let s := withTrips [readyTrip] parked
    linkOpen s = true ∧ s.msq.winder = .parked ∧ s.prt.entries = [] ∧ mayRun s readyTrip = true ∧
    arbitrate s = some readyTrip ∧ (clutchOf s .d1).state = .engaged ∧ (clutchOf s .d2).state = .free ∧
    s.cpl.block = false ∧ quietStations s ∧ tripStop s readyTrip = some 100 ∧
    (after (.start 7 []) s).msq.winder = .running .proving ∧
    (after (.start 7 (put8 5)) s).msq.direction = some .down := by
  unfold quietStations; decide +kernel

theorem test_StartEntersProving_search :
    let s := withTrips [{ searching with state := .ready }]
      { parked with msq := { parked.msq with search1 := some ⟨0, .up, .down, true, false⟩ } }
    mayRun s { searching with state := .ready } = true ∧
    searchOf s .d1 = some ⟨0, .up, .down, true, false⟩ ∧
    searchOf (after (.start 7 []) s) .d1 = some ⟨0, .up, .up, false, false⟩ := by decide +kernel

theorem test_StartEntersProving_resume :
    let s := winderAs .halted (withTrips [{ searching with state := .suspended }]
      { parked with msq := { parked.msq with search1 := some ⟨0, .up, .down, true, false⟩ } })
    linkOpen s = true ∧ mayRun s { searching with state := .suspended } = true ∧
    (after (.start 7 []) s).msq.winder = .running .proving ∧
    searchOf (after (.start 7 []) s) .d1 = some ⟨0, .up, .down, true, false⟩ := by decide +kernel

theorem test_StartEntersProving_path :
    let s := withTrips [readyTrip] parked
    let far : DrumTrack := { standing with count := 9000, used := 9000 }
    let u := after (.start 7 []) s
    let v := after (.start 7 []) { s with dpt := { s.dpt with drum1 := far } }
    tableSorted (cfg s).stations = true ∧ originSource s .cage = some 1 ∧
    u.slc.originStation = some 1 ∧ u.slc.path = setOf [1, 2] ∧
    v.slc.originStation = none ∧ v.slc.path = setOf [2] := by decide +kernel

theorem test_StartEntersChangeover_met :
    let t := trip .rock .skip .ready (requiredFor .rock)
    let s := withTrips [t] parked
    mayRun s t = true ∧ presence s .clutchMismatch = 0 ∧ s.cpl.drv = false ∧ s.cpl.changeover = none ∧
    (clutchOf s .d1).state ≠ .free ∧ (clutchOf s .d1).reading ≠ .atFree ∧
    (after (.start 7 (put8 5)) s).cpl.dis1 = true ∧
    let u := { s with cpl := Cpl.fresh .atFree .between }
    (clutchOf u .d1).state = .free ∧ (clutchOf u .d2).state ≠ .engaged ∧
    (clutchOf u .d2).reading ≠ .atEngaged ∧ (after (.start 7 (put8 5)) u).cpl.eng2 = true := by
  decide +kernel

theorem test_StartChecks_taken :
    let person := { trip .personnel .cage .ready (requiredFor .personnel) with id := 6 }
    let s := withTrips [readyTrip, person] parked
    s.prt.entries = [] ∧ s.tqm.trips = [readyTrip] ++ person :: [] ∧ posOf s .cage ≠ .unknown ∧
    posOf s .counterweight ≠ .unknown ∧
    (after (.start 7 []) s).hlc.places = [⟨false, 0x13, 7, [0, 6]⟩] ∧
    (after (.start 7 (put8 5)) s).hlc.places = [⟨false, 0x13, 7, [0, 5]⟩] ∧
    let u := winderAs .halted (withTrips [{ readyTrip with state := .suspended }] parked)
    (after (.start 7 []) u).hlc.places = [⟨false, 0x13, 7, [0, 5]⟩] := by decide +kernel

theorem test_StartChecks_refused :
    let reply (body : List Byte) (s : State) : List Place := (after (.start 7 body) s).hlc.places
    let stopped := winderAs .halted (withTrips [{ readyTrip with state := .suspended }] parked)
    let lost (s : State) : State := onConv .cage (fun c => { c with pos := .unknown }) s
    reply [] comm = [⟨false, 0x13, 7, [0x03]⟩] ∧
    reply [] (withEntries [entry .slackRope .emergency .latched true] parked) =
      [⟨false, 0x13, 7, [0x0D]⟩] ∧
    reply [] (run (.running .moving)) = [⟨false, 0x13, 7, [0x03]⟩] ∧
    reply (put8 6) stopped = [⟨false, 0x13, 7, [0x03]⟩] ∧
    reply (put8 6) parked = [⟨false, 0x13, 7, [0x09]⟩] ∧
    reply (put8 5) (withTrips [{ readyTrip with state := .pending }] parked) =
      [⟨false, 0x13, 7, [0x0B]⟩] ∧
    reply (put8 5) (lost stopped) = [⟨false, 0x13, 7, [0x08]⟩] ∧
    reply [] (lost stopped) = [⟨false, 0x13, 7, [0x08]⟩] ∧
    reply [] parked = [⟨false, 0x13, 7, [0x0B]⟩] ∧
    reply [] (lost (withTrips [readyTrip] parked)) = [⟨false, 0x13, 7, [0x08]⟩] := by decide +kernel

theorem test_StopBeginsControlledStop_met :
    let s := run (.running .moving)
    linkOpen s = true ∧ currentTrip s = some activeMaterial ∧ atStandstill s .d1 = false ∧
    s.msq.ceiling.ramp = none ∧ (after (.stop 7 []) s).msq.winder = .stopping .decelerating ∧
    (after (.stop 7 []) (run (.running .settling))).hlc.places = [⟨false, 0x14, 7, [0, 3]⟩] ∧
    (after (.stop 7 []) (run (.stopping .setting))).hlc.places = [⟨false, 0x14, 7, [0, 4]⟩] ∧
    (after (.stop 7 []) parked).hlc.places = [⟨false, 0x14, 7, [3]⟩] := by decide +kernel

theorem test_ControlledEntry_met :
    let s := run (.running .moving)
    entryOf s .clutchTimeout = none ∧ actionInForce s .clutchTimeout = .controlled ∧
    (raise .clutchTimeout 1 s).msq.winder = .stopping .decelerating ∧
    (raise .clutchTimeout 1 s).prt.entries.map (fun e => e.action) = [.controlled] := by decide +kernel

/-- A changeover of a rock trip. -/
def changing (target : Drum) (m : Movement) : State :=
  let s := run .changeover
  { s with cpl := {
      Cpl.fresh .atFree .between with
      changeover := some ⟨target, some m⟩
      dis2 := decide (target = .d1) && decide (m = .release)
      eng2 := decide (target = .d2) && decide (m = .engage)
      dis1 := decide (target = .d2) && decide (m = .release)
      eng1 := decide (target = .d1) && decide (m = .engage)
      clutch1 := ⟨.between, .releasing, some 7000⟩
      clutch2 := ⟨.between, .engaging, some 7000⟩ } }

theorem test_StopBeforeMoving_met :
    let s := run (.running .proving)
    linkOpen s = true ∧ s.msq.current = some 5 ∧
    s.tqm.trips.filter (fun u => decide (u.id = 5)) = [activeMaterial] ∧ quietStations s ∧
    presence s .overspeed = 0 ∧ (after (.stop 7 []) s).msq.winder = .halted ∧
    (after (.stop 7 []) s).cpl.drv = false ∧
    (after (.stop 7 []) (changing .d1 .release)).cpl.changeover = none ∧
    (after (.stop 7 []) (changing .d2 .engage)).cpl.eng2 = false := by
  unfold quietStations; decide +kernel

theorem test_StopBeforeMoving_movements :
    let clutches (target : Drum) (m : Movement) : ClutchState × ClutchState :=
      let c := (after (.stop 7 []) (changing target m)).cpl
      (c.clutch1.state, c.clutch2.state)
    clutches .d1 .release = (.releasing, .unsure) ∧ clutches .d1 .engage = (.unsure, .engaging) ∧
    clutches .d2 .release = (.unsure, .engaging) ∧ clutches .d2 .engage = (.releasing, .unsure) ∧
    (after (.stop 7 []) (run .changeover)).msq.winder = .halted := by decide +kernel

/-- A search that has found its mark, with an edit staged. -/
def foundRun (w : Winder) : State :=
  let s := withTrips [searching] (run w)
  { s with
    msq := { s.msq with search1 := some ⟨20, .down, .down, true, true⟩ }
    pfu := ⟨[.zoneCeiling 1 400]⟩ }

theorem test_StopBeforeMoving_found :
    let u := after (.stop 7 []) (foundRun (.running .proving))
    let v := after (.stop 7 []) (foundRun .changeover)
    (∀ e ∈ (foundRun .changeover).prt.entries, e.action ≠ .emergency) ∧ u.msq.winder = .parked ∧
    u.tqm.trips = [] ∧ u.pfu.staged = [] ∧ searchOf u .d1 = none ∧ v.msq.winder = .parked ∧
    u.hlc.places = [⟨false, 0x14, 7, [0, 1]⟩] := by decide +kernel

/-! ## Faults, reconciliation, edits, commissioning, store and restart -/

theorem test_ClearFaults_met :
    let s := winderAs .tripped (withEntries [entry .ultimateLimit .emergency .latched true,
      entry .markMissed .report .self false] parked)
    linkOpen s = true ∧ (s.prt.entries.map (fun e => e.prot)).Nodup ∧
    (after (.clearFaults 7 []) s).msq.winder = .parked ∧ (after (.clearFaults 7 []) s).cpl.block = false ∧
    (after (.clearFaults 7 []) s).hlc.places = [⟨false, 0x15, 7, [0, 1, 1]⟩] := by decide +kernel

theorem test_ClearFaults_staged :
    let s := winderAs .tripped (withEntries [entry .ultimateLimit .emergency .latched true]
      { parked with pfu := ⟨[.zoneCeiling 1 400]⟩ })
    (after (.clearFaults 7 []) s).pfu.staged = [] ∧
    tableGet 1 (cfg (after (.clearFaults 7 []) s)).zones = some ⟨.c, 20, 50, 400, true⟩ := by
  decide +kernel

theorem test_ClearFaults_clamp :
    let s := withEntries [entry .stationHold .creep .latched true]
      { parked with msq := { parked.msq with creepClamp := true } }
    holdsAction .creep s.prt.entries = true ∧
    (after (.clearFaults 7 []) s).msq.creepClamp = false := by decide +kernel

theorem test_Reconcile_met :
    let s := withTrips [pendingTrip] { parked with
      tqm := { parked.tqm with originCage := .unset } }
    let u := after (.reconcile 7 (put8 2 ++ put32 400000 ++ put8 (dirNumber (some .up)))) (withTrips [] s)
    linkOpen s = true ∧ s.msq.winder = .parked ∧ depthOf u .skip = 400000 ∧ posOf u .skip = .unknown ∧
    searchOf u .d2 = some ⟨400000, .up, .up, false, false⟩ ∧
    u.tqm.trips.map (fun t => (t.kind, t.state, t.step)) = [(.search, .ready, 1)] := by decide +kernel

theorem test_TighteningEdits_met :
    tightening config (.zoneCeiling 1 299) = true ∧ tightening config (.zoneCeiling 1 300) = false ∧
    linkOpen parked = true ∧ editFits (cfg parked) (.levelEnable 1 false) ∧
    tightening (cfg parked) (.levelEnable 1 false) = true ∧
    activeTrip (withTrips [readyTrip] parked) = none ∧
    (after (.edit 7 (editBody (.levelEnable 1 false))) (withTrips [readyTrip] parked)).tqm.trips = [] := by
  unfold editFits; decide +kernel

theorem test_TighteningEdits_moving :
    let s := run (.running .moving)
    let low := { s with msq := { s.msq with ceiling := ⟨1400, .base, some 1400, none⟩ } }
    let d := run (.stopping .decelerating)
    activeTrip low = some activeMaterial ∧ currentTrip low = some activeMaterial ∧
    editFits (cfg low) (.zoneCeiling 1 5) ∧ tightening (cfg low) (.zoneCeiling 1 5) = true ∧
    (after (.edit 7 (editBody (.zoneCeiling 1 5))) low).msq.ceiling =
      ⟨1400, .ramp, some 500, some ⟨1400, 1000, 500⟩⟩ ∧
    activeTrip d = some activeMaterial ∧
    (after (.edit 7 (editBody (.zoneEnable 1 true))) d).msq.ceiling = ⟨0, .stop, some 0, none⟩ := by
  unfold editFits; decide +kernel

theorem test_WriteEdit_writesOneValue :
    let w := writeEdit config (.zoneCeiling 1 7)
    tableGet 1 w.zones = some ⟨.c, 20, 50, 7, true⟩ ∧ tableGet 2 w.zones = tableGet 2 config.zones ∧
    (writeEdit config (.stationMask 9 allMask)).stations = config.stations := by decide +kernel

theorem test_LooseningAndDropped_met :
    editFits (cfg parked) (.zoneCeiling 1 400) ∧ tightening (cfg parked) (.zoneCeiling 1 400) = false ∧
    (after (.edit 7 (editBody (.zoneCeiling 1 400))) parked).cfs.inForce =
      some (writeEdit config (.zoneCeiling 1 400)) ∧
    (after (.edit 7 (editBody (.zoneCeiling 1 400))) (run (.running .moving))).pfu.staged =
      [.zoneCeiling 1 400] ∧
    (after (.edit 7 (editBody (.zoneCeiling 1 400))) { run (.running .moving) with
      pfu := ⟨[.levelEnable 1 true, .zoneCeiling 1 350]⟩ }).pfu.staged =
      [.levelEnable 1 true, .zoneCeiling 1 400] ∧
    (after (.edit 7 (editBody (.zoneCeiling 1 400))) { run (.running .moving) with
      pfu := ⟨List.replicate 8 (.levelEnable 1 true)⟩ }).hlc.places = [⟨false, 0x17, 7, [0x0F]⟩] ∧
    (after (.dropEdits 7 []) { parked with pfu := ⟨[.levelEnable 1 true]⟩ }).pfu.staged = [] ∧
    (after (.dropEdits 7 []) comm).hlc.places = [⟨false, 0x18, 7, [3]⟩] := by
  unfold editFits; decide +kernel

theorem test_EnterCommission_met :
    linkOpen parked = true ∧ parked.cfs.write = none ∧ presence parked .stationLost = 0 ∧
    presence parked .stationHold = 0 ∧ presence parked .pathGate = 0 ∧
    (after (.enterCommission 7 []) parked).msq.winder = .commission ∧
    (after (.enterCommission 7 []) parked).cfs.working = some config := by decide +kernel

theorem test_EnterCommission_held :
    let s := setPresence .stationHold (setOne 2) (withEntries [entry .stationHold .report .self false]
      (station2 (fun e => { e with hold := true }) parked))
    presence s .stationHold ≠ 0 ∧ (after (.enterCommission 7 []) s).dpt = s.dpt ∧
    (after (.enterCommission 7 []) s).msq.winder = .commission := by decide +kernel

theorem test_Store_met :
    (after (.store 7 []) parked).cfs.write = some ⟨some config, .writing, 1000⟩ ∧
    (after (.store 7 []) comm).cfs.write = some ⟨none, .clearing, 0⟩ ∧
    (after (.storeWriteComplete false) { comm with
      cfs := { comm.cfs with write := some ⟨none, .clearing, 0⟩ } }).cfs.write = none := by decide +kernel

theorem test_StoreWriteComplete_writes :
    (after (.storeWriteComplete true) { parked with
      cfs := { parked.cfs with write := some ⟨some config, .writing, 900⟩ } }).cfs.image =
      ⟨config, configCheck config, true⟩ := rfl

theorem test_Restart_met :
    (after (.restart 7 []) parked).hlc.drain = .on true ∧
    (after (.restart 7 []) comm).hlc.drain = .on false ∧
    (after (.restart 7 []) (winderAs .tripped parked)).hlc.drain = .on false ∧
    (after (.restart 7 []) (run (.running .moving))).hlc.places = [⟨false, 0x1B, 7, [0x03]⟩] ∧
    (after (.restart 7 []) { parked with cfs := { parked.cfs with
      write := some ⟨some config, .writing, 1000⟩ } }).hlc.places = [⟨false, 0x1B, 7, [0x0E]⟩] := by
  decide +kernel

/-! ## Queries -/

theorem test_Queries_met :
    linkOpen parked = true ∧ hostFrame (.getEdits 7 []) = some (0x27, 7, []) ∧
    requestLengths 0x27 = some [0] ∧ countLow ≤ (drumTrack parked .d1).count ∧
    ((after (.getState 7 []) parked).hlc.places.map (fun p => p.body.length)) = [45] ∧
    ((after (.getPositions 7 [1]) parked).hlc.places.map (fun p => p.body.length)) = [53] ∧
    ((after (.getQueue 7 [1]) (withTrips [readyTrip] parked)).hlc.places.map (fun p => p.body.length)) =
      [17] ∧
    ((after (.getFaults 7 [1]) parked).hlc.places.map (fun p => p.body)) = [[0, 0, 1, 0]] := by
  decide +kernel

theorem test_ConfigurationQueries_met :
    paramRow 1 = some ⟨0, 1, 1000000⟩ ∧ tableGet 1 config.levels = some ⟨true, some 100, some 100⟩ ∧
    tableGet 1 config.zones = some ⟨.c, 20, 50, 300, true⟩ ∧ tableGet 3 config.zones = none ∧
    (after (.getZone 7 [3]) parked).hlc.places = [⟨false, 0x2A, 7, 0 :: 3 :: List.replicate 14 0⟩] ∧
    parked.prt.firstOut = none ∧
    (withEntries [entry .overspeed .report .latched true] parked).prt.firstOut.isSome = true ∧
    tripById (withTrips [readyTrip] parked) 5 = some readyTrip ∧
    (after (.getTrip 7 [5]) (withTrips [readyTrip] parked)).hlc.places =
      [⟨false, 0x23, 7, [0] ++ putTripRecord readyTrip ++ [0, 1, 0, 0xFD, 0] ++ put16 179⟩] := by
  decide +kernel

/-! ## The station line -/

theorem test_StationPoll_met :
    after .stationPoll comm = comm ∧
    ((after .stationPoll { parked with slc := { parked.slc with round := some ⟨6, 6, []⟩ } }).slc.exchange.map
      (fun x => (x.station, x.deadline))) = some (2, 1010) ∧
    setHas 6 2 = true ∧ (∀ k, k < 2 → setHas 6 k = false) ∧
    (after .stationPoll { parked with
      slc := { parked.slc with round := some ⟨1, 0, []⟩, pointer := 24 } }).slc.pointer = 2 ∧
    parked.slc.round = none ∧ setHas (attended (withTrips [readyTrip] parked)) 1 = true ∧
    ((after .stationPoll (withTrips [readyTrip] parked)).slc.exchange.map (fun x => x.displayId)) =
      some 5 := by decide +kernel

theorem test_StationPoll_empty : ∀ k, setHas 0 k = false := by intro k; simp [setHas]

theorem test_GoodAnswers_met :
    let s := polled parked
    let a := answer 0 0 0 0 0
    s.slc.exchange = some ⟨2, none, 0, none, 1010⟩ ∧ stationOf s 2 = some online ∧ s.now ≤ 1010 ∧
    a.check = frameCheck [a.station, a.status, a.signal, a.arg1, a.arg2, a.arg3] ∧
    isPresent s .stationHold 2 = false ∧ isPresent s .pathGate 2 = false ∧
    isPresent s .stationLost 2 = false ∧ stationOf (after (.stationAnswer a) s) 2 = some online ∧
    stationOf (after (.stationAnswer a) (station2 (fun e => { e with link := .missing, misses := 2 }) s)) 2 =
      some online ∧
    stationOf (after (.stationAnswer a) (station2 (fun e => { e with link := .lost, rejoin := 1 }) s)) 2 =
      some online := by decide +kernel

theorem test_GoodAnswers_lostAndGates :
    let s := polled parked
    let lost := station2 (fun e => { e with link := .lost, misses := 3, gatesOpen := true }) s
    activeTrip s = none ∧ setHas (attended s) 2 = false ∧
    stationOf (after (.stationAnswer (answer 0 0 0 0 0)) lost) 2 =
      some ⟨.lost, 0, 1, true, false, none⟩ ∧
    let held := withTrips [readyTrip] (polled { parked with
      tqm := { parked.tqm with originCage := .atLevel 1 } })
    (∀ t ∈ held.tqm.trips, t.kind ≠ .search) ∧ originSource held .cage = some 2 ∧
    (after (.stationAnswer (answer 1 0 0 0 0)) held).tqm.trips.map (fun t => t.state) = [.pending] := by
  decide +kernel

/-- Station 2 opens its gates on a READY trip on either side of its deadline, at 180500 ms. -/
theorem test_GoodAnswers_fallBack :
    let opens (now : Nat) : State := after (.stationAnswer (answer 1 0 0 0 0)) (withTrips [readyTrip]
      (polled { parked with now := now, tqm := { parked.tqm with originCage := .atLevel 1 } }))
    let bare : Trip := { readyTrip with held := ⟨false, false, true, false⟩, state := .pending }
    (opens 180500).tqm.trips = [bare] ∧ (opens 180501).tqm.trips = [] ∧
    (opens 180500).hlc = noted [.trip .revoked bare none] parked.hlc ∧
    (opens 180501).hlc = noted [.trip .removed bare (some .expired)] parked.hlc := by decide +kernel

theorem test_GoodAnswers_conditions :
    let s := polled (run (.running .moving))
    let pathed := { s with slc := { s.slc with path := setOf [2] } }
    let u := after (.stationAnswer (answer 3 0 0 0 0)) pathed
    let lost := station2 (fun e => { e with link := .lost, gatesOpen := true })
      (polled { parked with slc := { parked.slc with path := setOf [2] } })
    isPresent u .stationHold 2 = true ∧ isPresent u .pathGate 2 = true ∧
    u.msq.winder = .stopping .decelerating ∧
    u.prt.entries.map (fun e => (e.prot, e.subjects)) =
      [(.stationHold, setOne 2), (.pathGate, setOne 2)] ∧
    isPresent (after (.stationAnswer (answer 0 0 0 0 0)) (polled u)) .stationHold 2 = false ∧
    lost.msq.current = none ∧ activeTrip lost = none ∧
    isPresent (after (.stationAnswer (answer 0 0 0 0 0)) lost) .stationLost 2 = true := by decide +kernel

theorem test_StationSignals_met :
    let s := polled parked
    maskOf s 2 = some allMask ∧ s.tqm.trips = [] ∧
    ((stationOf (after (.stationAnswer (answer 0 9 0 0 0)) s) 2).bind (fun e => e.result)) =
      some ⟨9, .outOfRange, 0, 0⟩ ∧
    admission s (some allMask) 1 2 (callDest s 2 0xFF) = .inr (.cage, .material, 1) ∧
    (after (.stationAnswer (answer 0 1 1 2 0xFF)) s).tqm.trips.map (fun t => (t.id, t.requester)) =
      [(1, 2)] ∧
    ((stationOf (after (.stationAnswer (answer 0 2 0 0 0)) s) 2).bind (fun e => e.result)) =
      some ⟨2, .nothingToConfirm, 0, 0⟩ := by decide +kernel

theorem test_StationSignals_readyAndCancel :
    let personnel := trip .personnel .cage .pending ⟨true, false, true, false⟩
    let s := polled (withTrips [{ personnel with requester := 2 }] parked)
    destSource s personnel = some 2 ∧ (∀ t ∈ s.tqm.trips, t.state ≠ .ready) ∧
    (after (.stationAnswer (answer 0 2 0 0 0)) s).tqm.trips.map (fun t => t.state) = [.ready] ∧
    ((stationOf (after (.stationAnswer (answer 0 2 0 0 0)) s) 2).bind (fun e => e.result)) =
      some ⟨2, .confirmed, 5, 1⟩ ∧
    (after (.stationAnswer (answer 0 3 5 0 0)) s).tqm.trips = [] := by decide +kernel

theorem test_StationSignals_holdPressed :
    let u := after (.stationAnswer (answer 2 1 1 2 0xFF)) (polled parked)
    parked.msq.current = none ∧ isPresent u .stationHold 2 = true ∧
    u.prt.entries.map (fun e => e.prot) = [.stationHold] ∧ u.tqm.trips.map (fun t => t.id) = [1] := by
  decide +kernel

theorem test_Misses_met :
    let s := polled parked
    let unheard := station2 (fun e => { e with link := .unheard }) s
    stationOf (after .answerWindowExpiry unheard) 2 = some ⟨.unheard, 1, 0, false, false, none⟩ ∧
    stationOf (after .answerWindowExpiry s) 2 = some ⟨.missing, 1, 0, false, false, none⟩ ∧
    stationOf (after .answerWindowExpiry (station2 (fun e => { e with link := .lost, misses := 15 }) s)) 2 =
      some ⟨.lost, 15, 0, false, false, none⟩ ∧
    stationOf (after .answerWindowExpiry (station2 (fun e => { e with link := .missing, misses := 2 }) s)) 2 =
      some ⟨.lost, 3, 0, true, false, none⟩ ∧
    (after .answerWindowExpiry s).now = 1010 ∧
    stationOf (after (.stationAnswer { answer 0 0 0 0 0 with lineError := true }) s) 2 =
      some ⟨.missing, 1, 0, false, false, none⟩ ∧
    activeTrip s = none ∧ setHas (attended s) 2 = false := by decide +kernel

/-- Station 2 one miss from LOST, with trips that it has requested and confirmed. -/
def losing (disposal : Int) (trips : List Trip) (s : State) : State :=
  station2 (fun e => { e with link := .missing, misses := 2 }) (polled { withTrips trips s with
    cfs := { s.cfs with inForce := some { config with
      params := { config.params with stationLossDisposal := disposal } } } })

theorem test_Misses_lossOfTrips :
    let rock := { trip .rock .skip .ready ⟨true, false, false, false⟩ with id := 6, requester := 2 }
    let ride := trip .personnel .cage .ready ⟨true, true, true, false⟩
    let s := losing 0 [ride, rock] parked
    let k := losing 1 [ride, rock] parked
    queueSound s ∧
    (after .answerWindowExpiry s).tqm.trips.map (fun t => (t.id, t.state, t.held.dest)) =
      [(5, .pending, false)] ∧
    (after .answerWindowExpiry k).tqm.trips.map (fun t => (t.id, t.state, t.orphaned)) =
      [(5, .pending, false), (6, .pending, true)] ∧
    isPresent (after .answerWindowExpiry s) .stationLost 2 = false := by
  unfold queueSound tripByKind heldWithin; decide +kernel

/-- A ROCK trip that station 2 has requested. -/
def rockTrip : Trip := { trip .rock .skip .ready ⟨true, false, false, false⟩ with id := 6, requester := 2 }

/-- A PERSONNEL trip with a confirmation of station 2. -/
def rideTrip : Trip := trip .personnel .cage .ready ⟨true, true, true, false⟩

/-- Station 2 one miss from LOST at 200000 ms, the deadline of the PERSONNEL trip past. -/
def losingLate (trips : List Trip) : State := losing 1 trips { parked with now := 200000 }

theorem test_Misses_lateTripsSound :
    queueSound (losingLate [rideTrip, { rockTrip with requestedAt := 100000 }]) ∧
    queueSound (losingLate [rockTrip]) := by
  constructor <;> (unfold queueSound tripByKind heldWithin; decide +kernel)

theorem test_Misses_lossPastDeadline :
    let s := losingLate [rideTrip, { rockTrip with requestedAt := 100000 }]
    pastDeadline s rideTrip = true ∧ destSource s rideTrip = some 2 ∧
    lossChange s 2 rideTrip = .drop .expired
      { rideTrip with held := ⟨true, false, true, false⟩, state := .pending } ∧
    (after .answerWindowExpiry s).tqm.trips.map (fun t => (t.id, t.state, t.orphaned)) =
      [(6, .pending, true)] ∧
    (after .answerWindowExpiry (losingLate [rockTrip])).tqm.trips = [] := by decide +kernel

theorem test_Misses_lossOnThePath :
    let r := run (.running .moving)
    let s := losing 0 [activeMaterial] { r with slc := { r.slc with path := setOf [2] } }
    let u := after .answerWindowExpiry s
    actionInForce s .stationLost = .controlled ∧ actionInForce s .pathGate = .controlled ∧
    atStandstill s .d1 = false ∧ setHas s.slc.path 2 = true ∧ isPresent u .stationLost 2 = true ∧
    isPresent u .pathGate 2 = true ∧ u.msq.winder = .stopping .decelerating ∧
    u.prt.entries.map (fun e => e.prot) = [.pathGate, .stationLost] := by decide +kernel

/-! ## Drums, depths and marks -/

theorem test_DrumSample_met :
    (after (.drumSample .d1) parked).now = 1000 ∧ (drumTrack parked .d1).faultLine = false ∧
    currentTrip parked = none ∧ activeTrip parked = none ∧ watchOf parked .d1 = .none ∧
    isPresent parked .linkMismatch 1 = false ∧
    beyondLimit (cfg parked) .cage (depthAt parked .cage 0) = false ∧
    beyondLimit (cfg parked) .counterweight (depthAt parked .counterweight 0) = false ∧
    isPresent parked .overwind 1 = false ∧ isPresent parked .overwind 2 = false ∧
    (after (.drumSample .d1) parked).dpt.linkError = some 0 ∧
    (after (.drumSample .d2) parked).dpt.drum2.sampledAt = 1000 := by decide +kernel

theorem test_DrumSample_path :
    let s := { run (.running .moving) with slc := { parked.slc with originStation := some 1 } }
    let far : DrumTrack := { (drumTrack s .d1) with
      count := 310, used := 310, history := List.replicate 11 310 }
    let u := after (.drumSample .d1) s
    let v := after (.drumSample .d1) { s with dpt := { s.dpt with drum1 := far } }
    s.tqm.trips.filter (fun v => decide (v.state = .active)) = [activeMaterial] ∧
    activeTrip u = some activeMaterial ∧ u.slc.path = setOf [1, 2] ∧ u.slc.originStation = some 1 ∧
    activeTrip v = some activeMaterial ∧ v.slc.path = setOf [2] ∧ v.slc.originStation = none := by
  decide +kernel

theorem test_DrumSample_faultLine :
    let s := { parked with dpt := { parked.dpt with drum1 := { standing with faultLine := true, count := 40 } } }
    (drumTrack (after (.drumSample .d1) s) .d1).used = 0 := by decide +kernel

theorem test_Standstill_met :
    let s := run (.running .moving)
    after (.standstillReached .d1) parked = parked ∧ currentTrip s = some activeMaterial ∧
    tripStop s activeMaterial = some 100 ∧ permitOf s .d1 = true ∧ waiting activeMaterial = false ∧
    (after (.standstillReached .d1) s).msq.winder = .running .moving ∧
    let there := { s with dpt := { s.dpt with drum1 := { s.dpt.drum1 with count := 96, used := 96 } } }
    (after (.standstillReached .d1) there).msq.winder = .running .settling ∧
    watchOf (after (.standstillReached .d1) there) .d1 = .held 96 0 ∧
    (after (.standstillReached .d1) (run (.stopping .decelerating))).msq.winder = .stopping .setting := by
  decide +kernel

theorem test_Standstill_noRun :
    let s := { parked with
      dpt := { parked.dpt with drum1 := { standing with standstill := false, count := 40, used := 40 } } }
    let trips := [trip .material .cage .pending ⟨false, false, true, false⟩]
    currentTrip s = none ∧ permitOf s .d1 = false ∧ (∀ count moved, watchOf s .d1 ≠ .held count moved) ∧
    (after (.standstillReached .d1) (withTrips trips s)).tqm.originCage = .outside ∧
    (after (.standstillReached .d1) (withTrips trips s)).tqm.trips.map (fun t => t.state) = [.ready] ∧
    watchOf (after (.standstillReached .d1) s) .d1 = .held 40 0 :=
  ⟨by decide, by decide, by intro c m h; exact Watch.noConfusion h, by decide +kernel, by decide +kernel, by decide +kernel⟩

/-- A search of drum 1 in MOVING, twenty samples quiet. -/
def searchQuiet (step : Nat) (r : SearchRec) : State :=
  let s := withTrips [{ searching with step := step }] { parked with
    dpt := { parked.dpt with drum1 := { standing with standstill := false } } }
  { s with
    msq := { s.msq with
      winder := .running .moving, current := some 5, direction := some .down, search1 := some r }
    cpl := { s.cpl with drv := true, brk1 := true } }

theorem test_Standstill_search :
    let ends (step : Nat) (r : SearchRec) : State := after (.standstillReached .d1) (searchQuiet step r)
    permitOf (searchQuiet 1 ⟨0, .down, .down, true, false⟩) .d1 = true ∧
    (ends 1 ⟨0, .down, .down, false, true⟩).msq.settle = some .arrived ∧
    (ends 4 ⟨0, .down, .down, true, false⟩).msq.settle = some .aborted ∧
    (ends 4 ⟨0, .down, .down, false, false⟩).msq.settle = none ∧
    (ends 3 ⟨0, .down, .down, true, false⟩).msq.direction = some .up ∧
    (ends 3 ⟨0, .down, .down, true, false⟩).tqm.trips.map (fun t => t.step) = [4] ∧
    (ends 3 ⟨0, .down, .down, true, false⟩).msq.ceiling.value = 50 ∧
    searchOf (testExhaustion searching (searchQuiet 1 ⟨-400, .down, .down, false, false⟩)) .d1 =
      some ⟨-400, .down, .down, true, false⟩ ∧
    searchOf (testExhaustion searching (searchQuiet 1 ⟨-399, .down, .down, false, false⟩)) .d1 =
      some ⟨-399, .down, .down, false, false⟩ := by decide +kernel

/-- Drum 1 moving with its count at `count`. -/
def atCount (count : Int) : State := { parked with
  dpt := { parked.dpt with drum1 := { standing with standstill := false, count := count } } }

theorem test_MarkPulse_met :
    after (.markPulse .c) parked = parked ∧
    (let s := atCount 40
     nearestMark (marksOf (cfg s) .c) (depthAt s .cage 40) = some (1, 50) ∧ activeTrip s = none ∧
     isPresent s .markMissed 1 = false ∧ (after (.markPulse .c) s).dpt.cage.drift = 10 ∧
     posOf (after (.markPulse .c) s) .cage = .reconciled) ∧
    (let s := atCount 300
     actionInForce s .markSlip ≠ .off ∧ posOf (after (.markPulse .c) s) .cage = .unknown ∧
     (entryOf (after (.markPulse .c) s) .markSlip).isSome = true) ∧
    (let s := { atCount 40 with
      dpt := { (atCount 40).dpt with cage := { placed with pos := .unknown } } }
     after (.markPulse .c) s = s) := by decide +kernel

theorem test_DrumSample_heldWatch :
    let watched (ref : Int) : State := { parked with cpl := { parked.cpl with watch1 := .held ref 0 } }
    (cfg parked).params.heldTol = 5 ∧ permitOf (watched 5) .d1 = false ∧
    actionInForce parked .heldDrumMove ≠ .off ∧
    watchOf (after (.drumSample .d1) (watched 5)) .d1 = .held 5 5 ∧
    watchOf (after (.drumSample .d1) (watched 6)) .d1 = .none ∧
    (entryOf (after (.drumSample .d1) (watched 6)) .heldDrumMove).isSome = true := by decide +kernel

theorem test_DrumSample_faults :
    let jump (count : Int) : State := after (.drumSample .d1) (atCount count)
    actionInForce parked .encoderFault ≠ .off ∧ posOf (jump 30) .cage ≠ .unknown ∧
    posOf (jump 31) .cage = .unknown ∧ posOf (jump 31) .counterweight = .unknown ∧
    ((entryOf (jump 31) .encoderFault).map (fun e => e.subjects)) = some (setOne 1) ∧
    (entryOf (jump 2147483647) .encoderFault).isSome = true := by decide +kernel

theorem test_DrumSample_linkAndOverwind :
    let low (datum : Int) : State := after (.drumSample .d1) { parked with
      dpt := { parked.dpt with cage := { placed with datum := datum } } }
    (cfg parked).params.linkTol = 100 ∧ isPresent (low 100) .linkMismatch 1 = false ∧
    isPresent (low 101) .linkMismatch 1 = true ∧ (low 101).dpt.linkError = some 101 ∧
    beyondLimit (cfg parked) .cage 400000 = false ∧ isPresent (low 400000) .overwind 1 = false ∧
    isPresent (low 400001) .overwind 1 = true ∧ isPresent (low 400001) .overwind 2 = false := by decide +kernel

theorem test_DrumSample_exemptInTheSample :
    let s := withTrips [searching] (run (.running .proving))
    overwindExempt s .d1 = true ∧ overwindExempt s .d2 = false ∧
    overwound true s .cage = false := by decide +kernel

/-- A search of drum 1 in MOVING. -/
def searchRun : State :=
  let s := withTrips [searching] (atCount 40)
  { s with
    msq := { s.msq with
      winder := .running .moving, current := some 5, direction := some .down
      search1 := some ⟨20, .down, .down, false, false⟩ }
    cpl := { s.cpl with drv := true, brk1 := true } }

theorem test_MarkPulse_search :
    activeTrip searchRun = some searching ∧ searchOf searchRun .d1 = some ⟨20, .down, .down, false, false⟩ ∧
    stepWindow 1 = 400 ∧ depthOf (after (.markPulse .c) searchRun) .cage = 50 ∧
    depthOf (after (.markPulse .c) searchRun) .counterweight = 950 ∧
    searchOf (after (.markPulse .c) searchRun) .d1 = some ⟨20, .down, .down, false, true⟩ := by
  decide +kernel

theorem test_MarkPulse_run :
    let s := { run (.running .moving) with dpt := (atCount 40).dpt }
    let missed := setPresence .markMissed (setOne 1) s
    activeTrip s = some activeMaterial ∧ (after (.markPulse .c) s).dpt.cage.drift = 10 ∧
    isPresent missed .markMissed 1 = true ∧
    isPresent (after (.markPulse .c) missed) .markMissed 1 = false ∧
    (let bare := { atCount 40 with
      cfs := { parked.cfs with inForce := some { config with marksC := [] } } }
     posOf (after (.markPulse .c) bare) .cage = .unknown) := by decide +kernel

theorem test_MarkPulse_searchElsewhere :
    let stage (w : Winder) (r : SearchRec) : State := after (.markPulse .c)
      { searchRun with msq := { searchRun.msq with winder := w, search1 := some r } }
    let found (s : State) : Option Bool := (searchOf s .d1).map (fun r => r.found)
    found (stage (.stopping .setting) ⟨20, .down, .down, false, false⟩) = some true ∧
    found (stage (.running .proving) ⟨20, .down, .down, true, false⟩) = some true ∧
    found (stage (.running .proving) ⟨20, .down, .down, false, false⟩) = some false ∧
    found (stage (.running .moving) ⟨450, .down, .down, false, false⟩) = some true ∧
    found (stage (.running .moving) ⟨451, .down, .down, false, false⟩) = some false := by decide +kernel

/-- Drum 1 moving down past the mark at 50, which the cage expects. -/
def passing (count : Int) (misses : Nat) : State := { parked with dpt := { parked.dpt with
  drum1 := { standing with
    standstill := false, quiet := 0, count := count
    history := (List.range 11).map (fun k => count - 10 * ((k : Int) + 1)) }
  cage := { placed with dir := some .down, expected := some 1, misses := misses, aimDue := false }
  counterweight := { placed with pos := .unknown } } }

theorem test_MissedMark_met :
    let sampled (count : Int) (misses : Nat) : ConvTrack :=
      (after (.drumSample .d1) (passing count misses)).dpt.cage
    (cfg parked).params.suspectTol = 150 ∧ (cfg parked).params.missLimit = 2 ∧
    sampled 200 0 = (passing 200 0).dpt.cage ∧
    sampled 201 0 = { (passing 201 0).dpt.cage with misses := 1, pos := .suspect, expected := none } ∧
    (sampled 201 15).misses = 15 ∧
    isPresent (after (.drumSample .d1) (passing 201 0)) .markMissed 1 = false ∧
    isPresent (after (.drumSample .d1) (passing 201 1)) .markMissed 1 = true := by decide +kernel

theorem test_Lines_met :
    (drumTrack (after (.encoderEdge .d1 true 5) (atCount 2147483645)) .d1).count = 2147483647 ∧
    (drumTrack (after (.encoderEdge .d2 false 3) parked) .d2).count = -3 ∧
    (drumTrack (after (.encoderFaultLineClear .d1) { parked with
      dpt := { parked.dpt with drum1 := { standing with faultLine := true } } }) .d1).resume = true ∧
    after (.encoderFaultLineClear .d1) parked = parked ∧
    isPresent parked .ultimateLimit 2 = false ∧ isPresent parked .slackRope 3 = false ∧
    after (.ultimateLimitChange .w false) parked = parked ∧
    after (.slackRopeChange .s false) parked = parked := by decide +kernel

/-- A part on which a condition is present for subjects 1 and 2, with its entry. -/
def flagged (p : Protection) (a : Action) (r : Recovery) (isHeld : Bool) : State :=
  setPresence p 3 (withEntries [{ entry p a r isHeld with subjects := 3 }] parked)

theorem test_Lines_goneAndRaised :
    let self := flagged .stationHold .creep .self false
    let latched := flagged .slackRope .controlled .latched false
    let retry := setPresence .overspeed 1 (flagged .overspeed .controlled .retry false)
    (gone .stationHold 1 self).prt.entries.map (fun e => e.subjects) = [2] ∧
    (gone .stationHold 2 (gone .stationHold 1 self)).prt.entries = [] ∧
    (gone .slackRope 1 latched).prt.entries = latched.prt.entries ∧
    (gone .overspeed 1 retry).prt.entries.map (fun e => (e.isHeld, e.deadline)) = [(true, some 11000)] ∧
    gone .pathGate 1 parked = parked ∧ presence (gone .pathGate 2 (setPresence .pathGate 2 parked)) .pathGate = 0 ∧
    (raise .slackRope 3 (flagged .slackRope .controlled .latched true)).prt.entries.map
      (fun e => (e.isHeld, e.subjects)) = [(false, 7)] ∧
    (raise .clutchTimeout 1 (flagged .clutchTimeout .controlled .retry false)).prt.entries.map
      (fun e => (e.isHeld, e.deadline)) = [(true, some 11000)] := by decide +kernel

theorem test_Lines_madeAgain :
    let s := setPresence .ultimateLimit (setOne 1)
      (withEntries [entry .ultimateLimit .emergency .latched false] parked)
    (entryOf s .ultimateLimit).isSome = true ∧ presence s .ultimateLimit = setOne (compNumber .c) ∧
    ((entryOf (after (.ultimateLimitChange .c false) s) .ultimateLimit).map (fun e => e.isHeld)) =
      some true := by decide +kernel

/-! ## The effective ceiling -/

theorem test_RetardCeiling_met :
    (retardOf config .d1).head? = some (1, ⟨20, 400⟩) ∧
    (retardOf config .d1).getLast? = some (2, ⟨150, 500⟩) ∧ tableSorted (retardOf config .d1) = true ∧
    retardCeiling config .d1 151 = none ∧ retardCeiling config .d1 150 = some (500, .retard 2) ∧
    retardCeiling config .d1 20 = some (400, .retard 1) ∧
    retardCeiling config .d1 6 = some (400, .retard 1) ∧
    retardCeiling config .d1 5 = some (400, .retard 1) ∧
    retardCeiling config .d1 (-5) = some (400, .retard 1) ∧
    retardCeiling config .d1 (-6) = some (0, .retardPast) := by decide +kernel

theorem test_CeilingFollowsLowestTerm_met :
    targetNow (run (.running .moving)) = some (500, .retard 2) ∧
    targetNow searchRun = some (50, .base) ∧ targetNow (run (.stopping .decelerating)) = some (0, .stop) ∧
    targetNow parked = none ∧
    broughtTo config.params 1000 (50, .creep) ⟨300, .ramp, some 50, some ⟨300, 0, 50⟩⟩ =
      ⟨180, .ramp, some 50, some ⟨300, 0, 50⟩⟩ ∧
    broughtTo config.params 3000 (50, .creep) ⟨300, .ramp, some 50, some ⟨300, 0, 50⟩⟩ =
      ⟨50, .creep, some 50, none⟩ ∧
    broughtTo config.params 3000 (50, .creep) ⟨300, .base, some 300, none⟩ =
      ⟨300, .ramp, some 50, some ⟨300, 3000, 50⟩⟩ := by decide +kernel

theorem test_CreepClamp_met :
    let s := run (.running .moving)
    let p : Protection := .stationHold
    let creeping := { s with cfs := { s.cfs with
      inForce := some (setProtRow p ⟨.creep, .self, 1⟩ config) } }
    entryOf creeping p = none ∧ actionInForce creeping p = .creep ∧
    (raise p 2 creeping).msq.creepClamp = true ∧
    (setClamp true parked).msq = { parked.msq with creepClamp := true } ∧
    (setClamp true s).msq.ceiling = ⟨50, .creep, some 50, none⟩ := by decide +kernel

theorem test_Overspeed_met :
    let at_ (speed : Int) (start : Option Nat) : State :=
      let s := run (.running .moving)
      { s with
        msq := { s.msq with ceiling := ⟨100, .base, some 100, none⟩, excessStart := start }
        dpt := { s.dpt with drum1 := { s.dpt.drum1 with speed := speed } } }
    let test (speed : Int) (start : Option Nat) : State := testExcess activeMaterial (at_ speed start)
    (cfg parked).params.overspeedDeglitch = 100 ∧ (cfg parked).params.overspeedMargin = 8 ∧
    (test 110 (some 0)).msq.excessStart = none ∧ (test 111 none).msq.excessStart = some 1000 ∧
    (test (-5) (some 0)).msq.excessStart = none ∧ (test (-6) none).msq.excessStart = some 1000 ∧
    (test 111 (some 900)).prt.entries = [] ∧
    ((test 111 (some 899)).prt.entries.map (fun e => (e.prot, e.subjects))) =
      [(.overspeed, setOne 1)] ∧
    (protRow (cfg parked) .overspeed).recovery ≠ .self := by decide +kernel

/-! ## Clutches and the expiries of the run -/

theorem test_ClutchReading_met :
    parked.cpl.changeover = none ∧ isPresent parked .clutchMismatch 1 = false ∧
    contradicts { clutchOf parked .d1 with reading := .atEngaged } = false ∧
    isPresent (after (.clutchReadingChange .d1 .between) parked) .clutchMismatch 1 = true ∧
    (let s := changing .d2 .release
     presence s .clutchMismatch = 0 ∧ (clutchOf s .d2).state ≠ .engaged ∧
     (clutchOf s .d2).reading ≠ .atEngaged ∧ (after (.clutchReadingChange .d1 .atFree) s).cpl.eng2 = true) ∧
    (let s := changing .d2 .engage
     currentTrip s = some activeMaterial ∧ s.cpl.block = false ∧
     (after (.clutchReadingChange .d2 .atEngaged) s).msq.winder = .running .proving) := by decide +kernel

theorem test_ClutchTime_met :
    let s := changing .d2 .release
    (clutchOf s .d1).timer = some 7000 ∧ s.cpl.changeover = some ⟨.d2, some .release⟩ ∧
    entryOf s .clutchTimeout = none ∧ actionInForce s .clutchTimeout = .controlled ∧
    s.msq.current = some 5 ∧ s.tqm.trips.filter (fun v => decide (v.id = 5)) = [activeMaterial] ∧
    quietStations s ∧ presence s .overspeed = 0 ∧ (after (.clutchTimeExpiry .d1) s).msq.winder = .halted ∧
    (after (.clutchTimeExpiry .d1) s).now = 7000 ∧
    (after (.clutchTimeExpiry .d1) (withEntries [entry .clutchTimeout .controlled .retry true] s)).cpl.changeover =
      some ⟨.d2, none⟩ ∧ after (.clutchTimeExpiry .d1) parked = parked := by
  unfold quietStations; decide +kernel

/-- PROVING with TORQUE_DELAY running. -/
def proving : State :=
  let s := run (.running .proving)
  { s with
    msq := { s.msq with phaseTimer := some (.torque 1500), ceiling := Ceiling.braked }
    cpl := { s.cpl with brk1 := false } }

theorem test_TorqueDelay_met :
    currentTrip proving = some activeMaterial ∧ proving.cpl.block = false ∧
    permitOf proving .d1 = false ∧ proving.msq.ceiling.value = 0 ∧
    (after .torqueDelayExpiry proving).msq.winder = .running .moving ∧
    (after .torqueDelayExpiry proving).cpl.brk1 = true ∧
    (after .torqueDelayExpiry proving).msq.ceiling = ⟨500, .retard 2, some 500, none⟩ ∧
    after .torqueDelayExpiry parked = parked := by decide +kernel

/-- BRAKE_SET_DELAY running in a phase or stage. -/
def setting (w : Winder) (outcome : Option SettleEnd) : State :=
  let s := run w
  { s with
    msq := { s.msq with phaseTimer := some (.brakeSet 1800), settle := outcome }
    cpl := { s.cpl with brk1 := false }
    pfu := ⟨[.zoneCeiling 1 400]⟩ }

theorem test_BrakeSetDelay_met :
    let s := setting (.running .settling) (some .arrived)
    let h := setting (.stopping .setting) none
    s.msq.current = some 5 ∧ s.tqm.trips.filter (fun v => decide (v.id = 5)) = [activeMaterial] ∧
    quietStations s ∧ presence s .overspeed = 0 ∧ (after .brakeSetDelayExpiry s).msq.winder = .parked ∧
    (after .brakeSetDelayExpiry s).tqm.trips = [] ∧ (after .brakeSetDelayExpiry s).pfu.staged = [] ∧
    activeMaterial.kind ≠ .search ∧ (after .brakeSetDelayExpiry h).msq.winder = .halted ∧
    (after .brakeSetDelayExpiry h).tqm.trips.map (fun t => t.state) = [.suspended] ∧
    after .brakeSetDelayExpiry parked = parked := by
  unfold quietStations; decide +kernel

theorem test_BrakeSetDelay_search :
    let ends (outcome : Option SettleEnd) (found : Bool) : State := after .brakeSetDelayExpiry
      (withTrips [searching] { setting (.stopping .setting) outcome with
        msq := { (setting (.stopping .setting) outcome).msq with
          search1 := some ⟨20, .down, .down, true, found⟩ } })
    actionInForce parked .reconcileFail ≠ .off ∧ (ends none true).msq.winder = .parked ∧
    (ends none true).tqm.trips = [] ∧ (ends none false).msq.winder = .halted ∧
    (ends (some .aborted) false).tqm.trips = [] ∧
    (entryOf (ends (some .aborted) false) .reconcileFail).isSome = true := by decide +kernel

theorem test_RetryAndPending_met :
    let s := winderAs .tripped (withEntries [entry .overspeed .emergency .retry true] parked)
    ((entryOf s .overspeed).bind (fun e => e.deadline)) = some 2000 ∧
    (after (.retryTimerExpiry .overspeed) s).msq.winder = .parked ∧
    (after (.retryTimerExpiry .overspeed) s).cpl.block = false ∧
    after (.retryTimerExpiry .overspeed) parked = parked ∧ after (.pendingExpiry 5) parked = parked ∧
    (after (.pendingExpiry 5) (withTrips [pendingTrip] parked)).tqm.trips = [] ∧
    (after (.pendingExpiry 5) (withTrips [pendingTrip] parked)).now = 180501 := by decide +kernel

/-! ## The EMERGENCY action and the invariants -/

theorem test_Emergency_met :
    let s := run (.running .moving)
    clutchCommandsAgree s ∧ entryOf s .ultimateLimit = none ∧
    actionInForce s .ultimateLimit = .emergency ∧ isPresent s .ultimateLimit 3 = false ∧
    (after (.ultimateLimitChange .s true) s).msq.winder = .tripped ∧
    actionInForce s .slackRope = .emergency ∧ isPresent s .slackRope 1 = false ∧
    (after (.slackRopeChange .c true) s).cpl.brk1 = false ∧
    actionInForce s .encoderFault = .emergency ∧ (drumTrack s .d1).faultLine = false ∧
    posOf (after (.encoderFaultLineAssert .d1) s) .counterweight = .unknown := by
  unfold clutchCommandsAgree; decide +kernel

theorem test_Emergency_stopAndFade :
    let s := run (.stopping .decelerating)
    let stopped := { s with msq := { s.msq with stopStart := some 900 } }
    let fading := { s with cpl := { s.cpl with watch1 := .fade 100 9000 } }
    actionInForce s .stopOverrun = .emergency ∧ actionInForce s .brakeFade = .emergency ∧
    (after .stopTimeLimitExpiry stopped).msq.winder = .tripped ∧
    (after .stopTimeLimitExpiry stopped).now = 20900 ∧
    (after (.brakeStopDeadline .d1) fading).msq.current = none ∧
    (after (.brakeStopDeadline .d1) fading).cpl.block = true := by decide +kernel

/-- The run with a command waiting. -/
def runStep : State := { run (.running .moving) with pending := [.stop 7 []] }

theorem test_StepsKeep_link : linkBounded runStep ∧ step runStep = .next (after (.stop 7 []) (run (.running .moving))) := by
  refine ⟨?_, by rfl⟩
  unfold linkBounded; decide +kernel

theorem test_StepsKeep_lines : emergencyHeld runStep ∧ clutchCommandsAgree runStep ∧ faultListSound runStep := by
  unfold emergencyHeld clutchCommandsAgree faultListSound; decide +kernel

theorem test_StepsKeep_actions :
    trippedUnderEmergency runStep ∧ clampFollowsCreep runStep ∧ runSound runStep := by
  refine ⟨?_, ?_, ?_⟩
  · unfold trippedUnderEmergency; decide +kernel
  · unfold clampFollowsCreep; decide +kernel
  · show (∃ t ∈ runStep.tqm.trips, _) ∧ _
    decide +kernel

theorem test_StepsKeep_clutches : clutchesFollowRun runStep := by
  refine ⟨fun d _ h => ?_, fun c h => ?_⟩
  · cases d
    · decide +kernel
    · exact absurd h (by decide +kernel)
  · exact absurd h (by show ¬ (none = some c); simp)

theorem test_StepsKeep_run : queueSound runStep ∧ runSound runStep ∧ permitsFollowRun runStep := by
  refine ⟨?_, ?_, ?_, ?_⟩
  · unfold queueSound tripByKind heldWithin; decide +kernel
  · show (∃ t ∈ runStep.tqm.trips, _) ∧ _
    decide +kernel
  · decide +kernel
  · intro d; cases d <;> decide +kernel

theorem test_StepsKeep_configuration : configurationSound runStep ∧ stagedSound runStep := by
  unfold configurationSound stagedSound; decide +kernel

theorem test_StepsKeep_depth : depthSound runStep := by
  unfold depthSound drumSound convSound; decide +kernel

end Sys2Proof.Tests
end

/-! PROOFS. How R14 classifies a service edit: what `tightening` answers of each edit type, and the statement
about it. -/
section
namespace Sys2Proof.Machine

/-- One member's test in `maskWithin`: a signal, conveyance or kind that the new set holds is in the old set. -/
theorem not_or_eq_true_iff_imp (a b : Bool) : (!a || b) = true ↔ (a = true → b = true) := by
  cases a <;> simp

/-- R14: a mask lies within another exactly if each member of its three sets is a member of the other's. -/
theorem maskWithin_iff (m old : Mask) : maskWithin m old = true ↔
    (m.call = true → old.call = true) ∧ (m.ready = true → old.ready = true) ∧
    (m.cancel = true → old.cancel = true) ∧ (m.cage = true → old.cage = true) ∧
    (m.skip = true → old.skip = true) ∧ (m.personnel = true → old.personnel = true) ∧
    (m.material = true → old.material = true) ∧ (m.rock = true → old.rock = true) ∧
    (m.search = true → old.search = true) ∧ (m.inspect = true → old.inspect = true) := by
  simp only [maskWithin, Bool.and_eq_true, not_or_eq_true_iff_imp, and_assoc]

theorem tightening_zoneCeiling_iff {c : Configuration} {n : Nat} {z : ZoneEntry} (v : Nat)
    (hz : tableGet n c.zones = some z) : tightening c (.zoneCeiling n v) = true ↔ v < z.ceiling := by
  simp only [tightening, hz, decide_eq_true_eq]

@[simp] theorem tightening_zoneEnable (c : Configuration) (n : Nat) (on : Bool) :
    tightening c (.zoneEnable n on) = on := rfl

@[simp] theorem tightening_levelEnable (c : Configuration) (n : Nat) (on : Bool) :
    tightening c (.levelEnable n on) = !on := rfl

theorem tightening_stationMask {c : Configuration} {n : Nat} {e : StationEntry} (m : Mask)
    (he : tableGet n c.stations = some e) : tightening c (.stationMask n m) = maskWithin m e.mask := by
  simp only [tightening, he]

/-- Settles O31, one edit type at a time: the two enables compare with nothing in force, the ceiling and the mask
with the entry that the tables hold. -/
theorem tighteningEditsByType : Obligations.TighteningEditsByType := by
  intro c
  refine ⟨?zoneCeiling, ?zoneEnable, ?levelEnable, ?stationMask⟩
  case zoneCeiling =>
    intro n v z hz
    exact tightening_zoneCeiling_iff v hz
  case zoneEnable =>
    intro n on
    rw [tightening_zoneEnable]
  case levelEnable =>
    intro n on
    rw [tightening_levelEnable, Bool.not_eq_true']
  case stationMask =>
    intro n m e he
    rw [tightening_stationMask m he]
    exact maskWithin_iff m e.mask

end Sys2Proof.Machine
end

/-! PROOFS. The clutches under reports, raises and the ends of a run (R136 to R143): what those operations leave of
the clutches while no changeover is in progress, and how a new reading moves the mismatch and a changeover. -/
section
namespace Sys2Proof.Machine

/-! ## What a test of the clutches reads -/

/-- The changeover in progress, the clutches and the presence record of CLUTCH_MISMATCH (R138, R142, R143). -/
structure ClutchView where
  changeover : Option Changeover
  clutch1 : Clutch
  clutch2 : Clutch
  mismatch : SubjectSet

/-- The view of a state. -/
def clutchView (s : State) : ClutchView where
  changeover := s.cpl.changeover
  clutch1 := s.cpl.clutch1
  clutch2 := s.cpl.clutch2
  mismatch := presence s .clutchMismatch

/-- The operation changes nothing of the view of a state without a changeover: at most it releases the commands of
a changeover in progress (R141). -/
abbrev KeepsIdleClutches (f : State → State) : Prop :=
  ∀ s, (clutchView s).changeover = none → clutchView (f s) = clutchView s

theorem clutchOf_eq_of_view {s u : State} (h : clutchView u = clutchView s) (d : Drum) :
    clutchOf u d = clutchOf s d := by
  cases d
  · exact congrArg ClutchView.clutch1 h
  · exact congrArg ClutchView.clutch2 h

theorem isPresent_mismatch_eq_of_view {s u : State} (h : clutchView u = clutchView s) (n : Nat) :
    isPresent u .clutchMismatch n = isPresent s .clutchMismatch n :=
  congrArg (fun v : ClutchView => setHas v.mismatch n) h

theorem clutchView_of_blocks {s u : State} (hc : u.cpl = s.cpl) (hp : u.prt.presence = s.prt.presence) :
    clutchView u = clutchView s := by
  simp only [clutchView, presence, hc, hp]

/-- An operation on other blocks keeps the view. -/
theorem clutchView_of_same {s u : State} (hc : u.cpl = s.cpl) (hp : u.prt = s.prt) :
    clutchView u = clutchView s :=
  clutchView_of_blocks hc (congrArg Prt.presence hp)

/-! ## Other blocks and the fault list -/

@[simp] theorem clutchView_notify (n : Notice) (s : State) : clutchView (notify n s) = clutchView s :=
  clutchView_of_same (by simp) (by simp)

@[simp] theorem clutchView_onMsq (f : Msq → Msq) (s : State) : clutchView (s.onMsq f) = clutchView s := rfl

@[simp] theorem clutchView_setWinder (w : Winder) (cause : WinderCause) (s : State) :
    clutchView (setWinder w cause s) = clutchView s := clutchView_of_same (by simp) (by simp)

@[simp] theorem clutchView_setCeiling (c : Ceiling) (s : State) :
    clutchView (setCeiling c s) = clutchView s := clutchView_of_same (by simp) (by simp)

@[simp] theorem clutchView_bringToTarget (s : State) : clutchView (bringToTarget s) = clutchView s :=
  clutchView_of_same (by simp) (by simp)

@[simp] theorem clutchView_setClamp (on : Bool) (s : State) : clutchView (setClamp on s) = clutchView s :=
  clutchView_of_same (by simp) (by simp)

@[simp] theorem clutchView_clampIfFirst (s : State) : clutchView (clampIfFirst s) = clutchView s :=
  clutchView_of_same (by simp) (by simp)

@[simp] theorem clutchView_setCurrent (id : Option Nat) (s : State) :
    clutchView (setCurrent id s) = clutchView s := rfl

@[simp] theorem clutchView_setTimer (t : Option PhaseTimer) (s : State) :
    clutchView (setTimer t s) = clutchView s := rfl

@[simp] theorem clutchView_setSettle (e : Option SettleEnd) (s : State) :
    clutchView (setSettle e s) = clutchView s := rfl

@[simp] theorem clutchView_startBrakeDelay (s : State) : clutchView (startBrakeDelay s) = clutchView s := rfl

@[simp] theorem clutchView_clearExcess (s : State) : clutchView (clearExcess s) = clutchView s := rfl

@[simp] theorem clutchView_reverseSearch (t : Trip) (s : State) :
    clutchView (reverseSearch t s) = clutchView s := clutchView_of_same (by simp) (by simp)

@[simp] theorem clutchView_enterParked (cause : WinderCause) (s : State) :
    clutchView (enterParked cause s) = clutchView s := clutchView_of_same (by simp) (by simp)

@[simp] theorem clutchView_applyStaged (s : State) : clutchView (applyStaged s) = clutchView s :=
  clutchView_of_same (by simp) (by simp)

@[simp] theorem clutchView_moveTrip (id : Nat) (state : TripState) (cause : TripCause) (s : State) :
    clutchView (moveTrip id state cause s) = clutchView s := clutchView_of_same (by simp) (by simp)

@[simp] theorem clutchView_removeTrip (id : Nat) (outcome : TripEnd) (s : State) :
    clutchView (removeTrip id outcome s) = clutchView s := clutchView_of_same (by simp) (by simp)

@[simp] theorem clutchView_writePath (s : State) : clutchView (writePath s) = clutchView s :=
  clutchView_of_same (by simp) (by simp)

@[simp] theorem clutchView_setEntries (es : List FaultEntry) (s : State) :
    clutchView (setEntries es s) = clutchView s := rfl

@[simp] theorem clutchView_changeEntry (cause : FaultCause) (e : FaultEntry) (n : Nat) (s : State) :
    clutchView (changeEntry cause e n s) = clutchView s := by
  simp [changeEntry, faultNotice]

@[simp] theorem clutchView_joinList (e : FaultEntry) (n : Nat) (s : State) :
    clutchView (joinList e n s) = clutchView s := by
  simp only [joinList, faultNotice, clutchView_notify]
  rfl

@[simp] theorem clutchView_takeOut (reason : RemovalReason) (e : FaultEntry) (n : Nat) (s : State) :
    clutchView (takeOut reason e n s) = clutchView s := by
  simp [takeOut, faultNotice]

/-- The record of a protection is read from its own place. -/
theorem presence_setPresence (p q : Protection) (m : SubjectSet) (s : State) :
    presence (setPresence p m s) q = if protIdx p = protIdx q then m else presence s q := by
  simp [presence, setPresence, Vector.getElem_set, Fin.ext_iff]

theorem protIdx_eq_clutchMismatch {p : Protection} (h : protIdx p = protIdx .clutchMismatch) :
    p = .clutchMismatch := by
  cases p <;> simp_all [protIdx]

theorem clutchView_setPresence {p : Protection} (hp : p ≠ .clutchMismatch) (m : SubjectSet) (s : State) :
    clutchView (setPresence p m s) = clutchView s := by
  have hidx : protIdx p ≠ protIdx .clutchMismatch := fun h => hp (protIdx_eq_clutchMismatch h)
  simp [clutchView, presence_setPresence, hidx]

/-! ## Gone reports (R164 to R166) -/

/-- R134: the end of the last EMERGENCY entry clears the block and leaves the clutches. -/
@[simp] theorem clutchView_endEmergency (s : State) : clutchView (endEmergency s) = clutchView s := by
  have hblock : clutchView (s.onCpl fun c => { c with block := false }) = clutchView s := rfl
  simp only [endEmergency]
  split <;> simp [hblock]

@[simp] theorem clutchView_settleList (before : List FaultEntry) (s : State) :
    clutchView (settleList before s) = clutchView s := by
  have hclear (t : State) : clutchView (t.onPrt fun x => { x with firstOut := none }) = clutchView t := rfl
  simp only [settleList]
  repeat' split
  all_goals simp [hclear]

@[simp] theorem clutchView_removeEntry (reason : RemovalReason) (e : FaultEntry) (n : Nat) (s : State) :
    clutchView (removeEntry reason e n s) = clutchView s := by
  simp [removeEntry]

@[simp] theorem clutchView_goneFromEntry (e : FaultEntry) (n : Nat) (s : State) :
    clutchView (goneFromEntry e n s) = clutchView s := by
  have hhold : clutchView (goneFromEntry.hold e n s) = clutchView s := by
    simp only [goneFromEntry.hold]
    split <;> simp
  simp only [goneFromEntry]
  repeat' split
  all_goals simp [hhold]

/-- A gone report writes the record and works on the entry; the entry's part keeps the view. -/
theorem clutchView_gone_present (p : Protection) (n : Nat) (s : State) (h : isPresent s p n = true) :
    clutchView (gone p n s) = clutchView (setPresence p (setErase n (presence s p)) s) := by
  simp only [gone, h, if_true]
  split <;> simp

theorem clutchView_gone {p : Protection} (hp : p ≠ .clutchMismatch) (n : Nat) (s : State) :
    clutchView (gone p n s) = clutchView s := by
  cases h : isPresent s p n with
  | false => rw [gone_absent p n s h]
  | true => rw [clutchView_gone_present p n s h, clutchView_setPresence hp]

@[simp] theorem clutchView_leaveMotion (s : State) : clutchView (leaveMotion s) = clutchView s := by
  have hgone (t : State) (n : Nat) : clutchView (gone .overspeed n t) = clutchView t :=
    clutchView_gone (by decide) n t
  rw [leaveMotion, goneAll, foldl_same clutchView _ hgone, clutchView_clearExcess]

/-! ## The lines (R133, R135, R141) -/

@[simp] theorem clutchView_withdrawDrv (s : State) : clutchView (withdrawDrv s) = clutchView s := rfl

@[simp] theorem clutchView_setWatch (d : Drum) (w : Watch) (s : State) :
    clutchView (setWatch d w s) = clutchView s := by
  cases d <;> rfl

@[simp] theorem clutchView_setPermit (d : Drum) (on : Bool) (s : State) :
    clutchView (setPermit d on s) = clutchView s := by
  cases d <;> rfl

@[simp] theorem clutchView_withdrawPermit (d : Drum) (s : State) :
    clutchView (withdrawPermit d s) = clutchView s := by
  simp only [withdrawPermit, beginWatch, holdWatch]
  repeat' split
  all_goals simp

/-- R141: without a changeover there is no command to release. -/
theorem releaseCommands_idle (s : State) (h : s.cpl.changeover = none) : releaseCommands s = s := by
  simp [releaseCommands, h]

theorem releaseCommands_keepsIdle : KeepsIdleClutches releaseCommands :=
  fun s hs => congrArg clutchView (releaseCommands_idle s hs)

theorem withdrawAll_keepsIdle : KeepsIdleClutches withdrawAll := by
  intro s hs
  have hblock (t : State) : clutchView (t.onCpl fun c => { c with block := true }) = clutchView t := rfl
  rw [withdrawAll, hblock, releaseCommands_keepsIdle _ (by simpa using hs)]
  simp

theorem actDeparting_keepsIdle (a : Action) : KeepsIdleClutches (actDeparting a) := by
  intro s hs
  cases a with
  | emergency => exact withdrawAll_keepsIdle s hs
  | creep => exact clutchView_clampIfFirst s
  | controlled | report | off => rfl

/-! ## Raises and the path (R87, R162, R163) -/

theorem raiseWith_keepsIdle {act : Action → State → State} (hact : ∀ a, KeepsIdleClutches (act a))
    (p : Protection) (n : Nat) : KeepsIdleClutches (raiseWith act p n) := by
  intro s hs
  simp only [raiseWith]
  repeat' split
  · exact clutchView_changeEntry _ _ _ _
  · rfl
  · rw [hact _ _ (by simpa using hs), clutchView_joinList]

theorem presentWith_keepsIdle {act : Action → State → State} (hact : ∀ a, KeepsIdleClutches (act a))
    {p : Protection} (hp : p ≠ .clutchMismatch) (n : Nat) : KeepsIdleClutches (presentWith act p n) := by
  intro s hs
  have hset : clutchView (setPresence p (setInsert n (presence s p)) s) = clutchView s :=
    clutchView_setPresence hp _ _
  simp only [presentWith]
  split
  · rfl
  · rw [raiseWith_keepsIdle hact p n _ (by rw [hset]; exact hs), hset]

theorem reportTest_keepsIdle {act : Action → State → State} (hact : ∀ a, KeepsIdleClutches (act a))
    {p : Protection} (hp : p ≠ .clutchMismatch) (n : Nat) (holds : Bool) :
    KeepsIdleClutches (reportTest (presentWith act) p n holds) := by
  intro s hs
  cases holds with
  | true => exact presentWith_keepsIdle hact hp n s hs
  | false => exact clutchView_gone hp n s

/-- A fold of operations that keep the view of an idle state keeps it. -/
theorem foldl_keepsIdle {α : Type} {f : State → α → State} (hf : ∀ a, KeepsIdleClutches (f · a))
    (l : List α) : KeepsIdleClutches (l.foldl f ·) := by
  intro s hs
  refine foldl_keeps (fun t => clutchView t = clutchView s) f (fun t a ht => ?_) l s rfl
  rw [hf a t (by rw [ht]; exact hs), ht]

theorem recomputePath_keepsIdle {act : Action → State → State} (hact : ∀ a, KeepsIdleClutches (act a)) :
    KeepsIdleClutches (recomputePath (presentWith act)) := by
  have hgates : KeepsIdleClutches (testGates (presentWith act)) := fun s hs =>
    foldl_keepsIdle (fun n t ht => reportTest_keepsIdle hact (by decide) n _ t ht) (enrolled s) s hs
  have hlost : KeepsIdleClutches (testLost (presentWith act)) := by
    refine fun s hs => foldl_keepsIdle (fun n t ht => ?_) (enrolled s) s hs
    dsimp only
    split
    · exact reportTest_keepsIdle hact (by decide) n _ t ht
    · rfl
  intro s hs
  have hwrite : clutchView (writePath s) = clutchView s := clutchView_writePath s
  have htested : clutchView (testGates (presentWith act) (writePath s)) = clutchView s := by
    rw [hgates _ (by rw [hwrite]; exact hs), hwrite]
  rw [recomputePath, hlost _ (by rw [htested]; exact hs), htested]

theorem departPath_keepsIdle : KeepsIdleClutches departPath :=
  recomputePath_keepsIdle actDeparting_keepsIdle

/-! ## The ends of a run and the actions (R76, R77, R109 to R119, R157 to R159) -/

theorem suspendCurrent_keepsIdle : KeepsIdleClutches suspendCurrent := by
  intro s hs
  simp only [suspendCurrent]
  split
  · exact departPath_keepsIdle s hs
  · rw [departPath_keepsIdle _ (by simpa using hs), clutchView_moveTrip]

theorem endCurrent_keepsIdle (outcome : TripEnd) : KeepsIdleClutches (endCurrent outcome) := by
  intro s hs
  simp only [endCurrent]
  repeat' split
  · rfl
  · rw [departPath_keepsIdle _ (by simpa using hs)]; simp
  · simp

theorem tripWinder_keepsIdle : KeepsIdleClutches tripWinder := by
  intro s hs
  rw [tripWinder, clutchView_leaveMotion, endCurrent_keepsIdle _ _ (by simpa using hs)]
  simp

theorem emergencyAction_keepsIdle : KeepsIdleClutches emergencyAction := by
  intro s hs
  simp only [emergencyAction]
  split
  case h_6 | h_7 => rfl
  all_goals exact tripWinder_keepsIdle s hs

theorem tripIfEmergency_keepsIdle : KeepsIdleClutches tripIfEmergency := by
  intro s hs
  simp only [tripIfEmergency]
  split
  · exact emergencyAction_keepsIdle s hs
  · rfl

theorem suspendNow_keepsIdle (cause : WinderCause) : KeepsIdleClutches (suspendNow cause) := by
  intro s hs
  have hleft : clutchView (leaveMotion (setCeiling Ceiling.idle
      (setWinder .halted cause (suspendCurrent s)))) = clutchView s := by
    simp [suspendCurrent_keepsIdle s hs]
  rw [suspendNow, tripIfEmergency_keepsIdle _ (by rw [hleft]; exact hs), hleft]

theorem endRun_keepsIdle (outcome : TripEnd) : KeepsIdleClutches (endRun outcome) := by
  intro s hs
  have hend : clutchView (endCurrent outcome s) = clutchView s := endCurrent_keepsIdle outcome s hs
  rw [endRun, tripIfEmergency_keepsIdle _ (by simpa [hend] using hs)]
  simp [hend]

@[simp] theorem clutchView_beginSetting (d : Drum) (s : State) :
    clutchView (beginSetting d s) = clutchView s := by
  simp [beginSetting]

@[simp] theorem clutchView_stopStands (s : State) : clutchView (stopStands s) = clutchView s := by
  simp only [stopStands]
  repeat' split
  all_goals simp

@[simp] theorem clutchView_beginStop (cause : WinderCause) (s : State) :
    clutchView (beginStop cause s) = clutchView s := by
  simp only [beginStop]
  repeat' split
  all_goals simp

theorem stopAtOnce_keepsIdle (cause : WinderCause) : KeepsIdleClutches (stopAtOnce cause) := by
  intro s hs
  simp only [stopAtOnce]
  split
  · exact endRun_keepsIdle _ s hs
  · exact suspendNow_keepsIdle cause s hs

theorem stopRun_keepsIdle (cause : WinderCause) : KeepsIdleClutches (stopRun cause) := by
  intro s hs
  simp only [stopRun]
  split
  case h_1 =>
    rw [releaseCommands_idle s hs]
    exact stopAtOnce_keepsIdle cause s hs
  case h_2 => rw [stopAtOnce_keepsIdle cause _ (by simpa using hs)]; simp
  case h_3 => exact clutchView_beginStop cause s
  all_goals rfl

theorem applyAction_keepsIdle (a : Action) : KeepsIdleClutches (applyAction a) := by
  intro s hs
  cases a with
  | emergency =>
    have hlines : clutchView (withdrawAll s) = clutchView s := withdrawAll_keepsIdle s hs
    rw [applyAction, emergencyAction_keepsIdle _ (by rw [hlines]; exact hs), hlines]
  | controlled => exact stopRun_keepsIdle .controlled s hs
  | creep => exact clutchView_clampIfFirst s
  | report | off => rfl

/-! ## The mismatch report (R143, R152) -/

theorem setHas_setInsert_self (n : Nat) (hn : 1 ≤ n ∧ n ≤ 24) (m : SubjectSet) :
    setHas (setInsert n m) n = true := by
  obtain ⟨h1, h24⟩ := hn
  have hpos : n ≠ 0 := by omega
  have hlt : n - 1 < 24 := by omega
  simp [setHas, setInsert, setOne, hpos, hlt]

theorem setHas_setErase_self (n : Nat) (m : SubjectSet) : setHas (setErase n m) n = false := by
  by_cases hpos : n = 0
  · simp [setHas, hpos]
  · simp [setHas, setErase, setOne, hpos]

/-- R152: a report of CLUTCH_MISMATCH while no changeover is in progress writes the record as the test found it,
whatever its action does, and leaves the clutches. -/
theorem report_mismatch_idle (n : Nat) (hn : 1 ≤ n ∧ n ≤ 24) (holds : Bool) (s : State)
    (hs : s.cpl.changeover = none) (d : Drum) :
    clutchOf (report .clutchMismatch n holds s) d = clutchOf s d ∧
      isPresent (report .clutchMismatch n holds s) .clutchMismatch n = holds := by
  by_cases hstands : isPresent s .clutchMismatch n = holds
  · rw [report_standing _ _ _ _ hstands]
    exact ⟨rfl, hstands⟩
  -- The report acts as the new record written, the rest keeping the view.
  obtain ⟨m, hm, hview⟩ : ∃ m, setHas m n = holds ∧ clutchView (report .clutchMismatch n holds s) =
      clutchView (setPresence .clutchMismatch m s) := by
    cases holds with
    | true =>
      refine ⟨_, setHas_setInsert_self n hn (presence s .clutchMismatch), ?_⟩
      simp only [report, reportTest, if_true, present, presentWith, hstands]
      exact raiseWith_keepsIdle applyAction_keepsIdle _ n _ hs
    | false =>
      refine ⟨_, setHas_setErase_self n (presence s .clutchMismatch), ?_⟩
      exact clutchView_gone_present _ n s (by simpa using hstands)
  refine ⟨?_, ?_⟩
  · rw [clutchOf_eq_of_view hview]
    cases d <;> rfl
  · rw [isPresent_mismatch_eq_of_view hview, isPresent, presence_setPresence, if_pos rfl, hm]

/-! ## A new reading (R136, R139, R142) -/

theorem contradicts_iff (c : Clutch) : contradicts c = true ↔
    c.state = .engaged ∧ c.reading ≠ .atEngaged ∨ c.state = .free ∧ c.reading ≠ .atFree := by
  cases hstate : c.state <;> simp [contradicts, hstate]

theorem drumNumber_range (d : Drum) : 1 ≤ drumNumber d ∧ drumNumber d ≤ 24 := by
  cases d <;> decide

/-- The state in which the reading stands and nothing has followed it yet. -/
def withReading (d : Drum) (r : ClutchReading) (s : State) : State :=
  onClutch d (fun c => { c with reading := r }) s

theorem clutchOf_withReading (d : Drum) (r : ClutchReading) (s : State) :
    clutchOf (withReading d r s) d = { clutchOf s d with reading := r } := by
  cases d <;> rfl

theorem withReading_changeover (d : Drum) (r : ClutchReading) (s : State) :
    (withReading d r s).cpl.changeover = s.cpl.changeover := by
  cases d <;> rfl

theorem exec_clutchReadingChange (d : Drum) (r : ClutchReading) {s : State} (hp : s.powered = true) :
    exec (.clutchReadingChange d r) s = .next (changeReading d r s) := by
  rw [exec_event _ _ rfl, whenPowered_on _ _ hp]

/-- R136: without a changeover a new reading leads to the mismatch test alone. -/
theorem changeReading_idle (d : Drum) (r : ClutchReading) (s : State) (h : s.cpl.changeover = none) :
    changeReading d r s = testClutch d (withReading d r s) := by
  have hnone : completedMovement (withReading d r s) d = none := by
    simp [completedMovement, withReading_changeover, h]
  simp only [withReading] at hnone
  simp only [changeReading, hnone, withReading]

/-- R139: a reading at the end of the movement under way completes it; the test follows. -/
theorem changeReading_completes {d : Drum} {r : ClutchReading} {s : State} {c : Drum × Movement}
    (h : completedMovement (withReading d r s) d = some c) :
    changeReading d r s = testClutch d (completeMovement c (withReading d r s)) := by
  simp only [withReading] at h
  simp only [changeReading, h, withReading]

/-- R143: the test changes nothing where the record agrees with it. -/
theorem testClutch_standing (d : Drum) (s : State)
    (h : isPresent s .clutchMismatch (drumNumber d) = contradicts (clutchOf s d)) : testClutch d s = s :=
  report_standing _ _ _ _ h

/-! ## The movements of a changeover (R138, R139) -/

/-- R139: a movement that starts on a clutch with no mismatch drives its command, names itself in the changeover
and starts its timer. -/
theorem startMovement_quiet (target : Drum) (m : Movement) (s : State)
    (h : presence s .clutchMismatch = 0) :
    startMovement target m s =
      onClutch (movedDrum target m) (fun c => { c with
          state := match m with
            | .release => .releasing
            | .engage => .engaging
          timer := some (s.now + (cfg s).params.clutchTime.toNat * 1000) })
        (setCommand (movedDrum target m) m true (setChangeover (some ⟨target, some m⟩) s)) :=
  gone_absent _ _ _ (isPresent_of_empty _ _ _ h)

/-- R138, R139: the engagement starts, and goes on, for a clutch that is neither ENGAGED nor at its end position. -/
theorem engagePhase_starts (target : Drum) (s : State) (h : presence s .clutchMismatch = 0)
    (hstate : (clutchOf s target).state ≠ .engaged) (hreading : (clutchOf s target).reading ≠ .atEngaged) :
    engagePhase target s = startMovement target .engage s := by
  have hstarted : (clutchOf (startMovement target .engage s) target).reading =
      (clutchOf s target).reading := by
    rw [startMovement_quiet _ _ _ h]
    cases target <;> rfl
  simp [engagePhase, hstate, hstarted, hreading]

@[simp] theorem completeMovement_release (target : Drum) (s : State) :
    completeMovement (target, .release) s = releaseDone target s := rfl

@[simp] theorem completeMovement_engage (target : Drum) (s : State) :
    completeMovement (target, .engage) s = engageDone target s := rfl

/-- R139: AT_FREE on the clutch that a changeover releases completes the release. -/
theorem completedMovement_release {d : Drum} {s : State}
    (h : s.cpl.changeover = some ⟨otherDrum d, some .release⟩) :
    completedMovement (withReading d .atFree s) d = some (otherDrum d, .release) := by
  have hmoved : movedDrum (otherDrum d) .release = d := by cases d <;> rfl
  simp [completedMovement, withReading_changeover, h, hmoved, clutchOf_withReading]

/-- R139: AT_ENGAGED on the clutch that a changeover engages completes the engagement. -/
theorem completedMovement_engage {d : Drum} {s : State}
    (h : s.cpl.changeover = some ⟨d, some .engage⟩) :
    completedMovement (withReading d .atEngaged s) d = some (d, .engage) := by
  simp [completedMovement, withReading_changeover, h, movedDrum, clutchOf_withReading]

/-- The state in which the release of a drum's clutch has ended and the engagement of the other drum is next. -/
def afterRelease (d : Drum) (s : State) : State :=
  setChangeover (some ⟨otherDrum d, none⟩) (endMovement d .release .free (withReading d .atFree s))

@[simp] theorem cfg_afterRelease (d : Drum) (s : State) : cfg (afterRelease d s) = cfg s := rfl

@[simp] theorem now_afterRelease (d : Drum) (s : State) : (afterRelease d s).now = s.now := rfl

theorem releaseDone_withReading (d : Drum) (s : State) :
    releaseDone (otherDrum d) (withReading d .atFree s) = engagePhase (otherDrum d) (afterRelease d s) := by
  cases d <;> rfl

/-- R138, R139: a completed release begins the engagement of the other drum. -/
theorem changeReading_releases {d : Drum} {s : State} (hm : presence s .clutchMismatch = 0)
    (hc : s.cpl.changeover = some ⟨otherDrum d, some .release⟩)
    (hstate : (clutchOf s (otherDrum d)).state ≠ .engaged)
    (hreading : (clutchOf s (otherDrum d)).reading ≠ .atEngaged) :
    changeReading d .atFree s = startMovement (otherDrum d) .engage (afterRelease d s) := by
  have hquiet : presence (afterRelease d s) .clutchMismatch = 0 := hm
  have hother : clutchOf (afterRelease d s) (otherDrum d) = clutchOf s (otherDrum d) := by cases d <;> rfl
  have hagrees : contradicts (clutchOf (startMovement (otherDrum d) .engage (afterRelease d s)) d) = false := by
    rw [startMovement_quiet _ _ _ hquiet]
    cases d <;> rfl
  have hpresence : presence (startMovement (otherDrum d) .engage (afterRelease d s)) .clutchMismatch = 0 := by
    rw [startMovement_quiet _ _ _ hquiet]
    exact hquiet
  rw [changeReading_completes (completedMovement_release hc), completeMovement_release,
    releaseDone_withReading, engagePhase_starts _ _ hquiet (hother ▸ hstate) (hother ▸ hreading),
    testClutch_standing]
  rw [isPresent_of_empty _ _ _ hpresence, hagrees]

/-! ## The end of a changeover (R109, R110, R138) -/

/-- R110, R135: without the emergency block the entry into PROVING asserts DRV. -/
theorem enterProving_cpl (cause : WinderCause) (s : State) (hb : s.cpl.block = false) :
    (enterProving cause s).cpl = { s.cpl with drv := true } := by
  simp [enterProving, assertDrv, hb]

/-- R110, R111: the entry into PROVING with the current trip's direction and TORQUE_DELAY. -/
theorem enterProving_msq (cause : WinderCause) {t : Trip} {s : State} (hb : s.cpl.block = false)
    (ht : currentTrip s = some t) :
    (enterProving cause s).msq = { s.msq with
      winder := .running .proving, ceiling := Ceiling.braked, direction := runDirection s t
      phaseTimer := some (.torque (s.now + (cfg s).params.torqueDelay.toNat)) } := by
  have hasserted : assertDrv (setWinder (.running .proving) cause s) =
      (setWinder (.running .proving) cause s).onCpl (fun c => { c with drv := true }) := by
    simp [assertDrv, hb]
  have htrip : currentTrip ((setWinder (.running .proving) cause s).onCpl
      (fun c => { c with drv := true })) = some t := ht
  simp only [enterProving, hasserted, htrip, setTimer, State.onMsq_msq, setCeiling_msq]
  rfl

/-- The state in which the engagement of a drum has ended and the changeover is over. -/
def afterEngagement (d : Drum) (s : State) : State :=
  setChangeover none (endMovement d .engage .engaged (withReading d .atEngaged s))

theorem engageDone_withReading {d : Drum} {s : State} (hw : s.msq.winder = .changeover) :
    engageDone d (withReading d .atEngaged s) = enterProving .changeoverDone (afterEngagement d s) := by
  have hwinder : (afterEngagement d s).msq.winder = .changeover := hw
  rw [engageDone, changeoverDone, ← afterEngagement]
  simp only [hwinder]

/-- R109, R138, R139: in CHANGEOVER a completed engagement leads into PROVING. -/
theorem changeReading_engages {d : Drum} {s : State} (hm : presence s .clutchMismatch = 0)
    (hc : s.cpl.changeover = some ⟨d, some .engage⟩) (hw : s.msq.winder = .changeover)
    (hb : s.cpl.block = false) :
    changeReading d .atEngaged s = enterProving .changeoverDone (afterEngagement d s) := by
  have hblock : (afterEngagement d s).cpl.block = false := by cases d <;> exact hb
  have hclutch :
      clutchOf (enterProving .changeoverDone (afterEngagement d s)) d = ⟨.atEngaged, .engaged, none⟩ := by
    cases d <;> simp only [clutchOf, enterProving_cpl _ _ hblock] <;> rfl
  have hpresence : presence (enterProving .changeoverDone (afterEngagement d s)) .clutchMismatch = 0 := by
    simpa [presence, afterEngagement, withReading] using hm
  rw [changeReading_completes (completedMovement_engage hc), completeMovement_engage,
    engageDone_withReading hw, testClutch_standing]
  rw [isPresent_of_empty _ _ _ hpresence, hclutch]
  rfl

/-- Settles O49. Without a changeover the reading leads to the mismatch test alone; with one, a reading at the end
position completes the movement, and the test then finds the clutch in agreement. -/
theorem clutchReadingsMoveChangeovers : Obligations.ClutchReadingsMoveChangeovers := by
  refine ⟨contradicts_iff, fun d r s hp => ?_⟩
  rw [exec_clutchReadingChange d r hp]
  refine ⟨?standing, ?tested, ?release, ?engage⟩
  case standing =>
    intro hc hagrees
    rw [changeReading_idle d r s hc, testClutch_standing]
    · cases d <;> rfl
    · rw [clutchOf_withReading]
      exact hagrees
  case tested =>
    intro hc
    have hidle : (withReading d r s).cpl.changeover = none := (withReading_changeover d r s).trans hc
    obtain ⟨hclutch, hpresent⟩ := report_mismatch_idle (drumNumber d) (drumNumber_range d)
      (contradicts (clutchOf (withReading d r s) d)) (withReading d r s) hidle d
    rw [clutchOf_withReading] at hclutch hpresent
    refine ⟨_, rfl, ?_⟩
    rw [changeReading_idle d r s hc, testClutch, clutchOf_withReading]
    exact ⟨hclutch, hpresent⟩
  case release =>
    intro hm hc hr hstate hreading
    subst hr
    rw [changeReading_releases hm hc hstate hreading, startMovement_quiet _ _ (afterRelease d s) hm,
      cfg_afterRelease, now_afterRelease]
    cases d <;> dsimp only [afterRelease, withReading, endMovement, onClutch, setCommand, setChangeover, movedDrum,
      otherDrum, State.onCpl]
  case engage =>
    intro t hm hc hr hw ht hb
    subst hr
    have hblock : (afterEngagement d s).cpl.block = false := by cases d <;> exact hb
    have htrip : currentTrip (afterEngagement d s) = some t := ht
    refine ⟨_, congrArg _ (changeReading_engages hm hc hw hb), ?_⟩
    rw [enterProving_cpl _ _ hblock, enterProving_msq _ hblock htrip]
    refine ⟨by cases d <;> rfl, by rfl, ?_⟩
    simp [afterEngagement, withReading]

end Sys2Proof.Machine
end

/-! PROOFS. The CHECK byte of a frame (R173, R175): the 8-bit register on numbers, the judgement of a whole frame by
its CHECK byte, and the bytes of a frame sent. -/
section
namespace Sys2Proof.Machine

/-! ## The register (R175) -/

/-- R175: on bit vectors and on numbers the register is stepped alike. -/
theorem toNat_checkStep (r : BitVec 8) : (checkStep r).toNat = registerStep r.toNat := by
  have hmsb : r.msb = true ↔ 128 ≤ r.toNat := by simp [BitVec.msb_eq_decide]
  have hshift : (r <<< 1).toNat = r.toNat * 2 % 256 := by simp [Nat.shiftLeft_eq]
  by_cases h : 128 ≤ r.toNat
  · rw [checkStep, if_pos (hmsb.2 h), registerStep, if_pos h, BitVec.toNat_xor, hshift]
    rfl
  · rw [checkStep, if_neg (mt hmsb.1 h), registerStep, if_neg h, hshift]
    omega

/-- R175: a byte combined, then eight steps, each by `toNat_checkStep`. -/
theorem toNat_checkByte (r : BitVec 8) (b : Byte) : (checkByte r b).toNat = registerByte r.toNat b := by
  have hsteps : Function.Semiconj BitVec.toNat checkStep registerStep := toNat_checkStep
  calc (checkByte r b).toNat
      = (checkStep^[8] (r ^^^ b)).toNat := rfl
    _ = registerStep^[8] (r ^^^ b).toNat := hsteps.iterate_right 8 (r ^^^ b)
    _ = registerByte r.toNat b := by rw [BitVec.toNat_xor]; rfl

/-- R175: the check value of a frame's bytes is the register on numbers, started at 0xFF. -/
theorem toNat_frameCheck (bytes : List Byte) :
    (frameCheck bytes).toNat = bytes.foldl registerByte 0xFF :=
  (List.foldl_hom BitVec.toNat fun r b => (toNat_checkByte r b).symm).symm

/-! ## The CHECK byte (R173 to R175) -/

/-- R174: a byte that comes within 25 ms of the one before it meets the hunter as it stands. -/
theorem hunterNow_inTime {s : State} (ht : s.now ≤ s.hlc.lastByte + 25) : hunterNow s = s.hlc.hunter :=
  if_neg (by omega)

/-- R175: a byte taken in CHECK judges the frame that the hunter holds. -/
theorem takeByte_check {s : State} {len kind tag : Byte} {bytes : List Byte} (b : Byte)
    (hd : s.hlc.drain = .off) (ht : s.now ≤ s.hlc.lastByte + 25)
    (hh : s.hlc.hunter = .check len kind tag bytes) :
    takeByte b s = judgeFrame len kind tag bytes b s := by
  simp only [takeByte, hd, hunterNow_inTime ht, hh]

theorem judgeFrame_wellFormed {len kind tag b : Byte} {bytes : List Byte} (s : State)
    (hb : b = frameCheck ([len, kind, tag] ++ bytes)) :
    judgeFrame len kind tag bytes b s = takeFrame kind tag bytes (ownerOf kind bytes s) s :=
  if_pos hb

theorem judgeFrame_discarded {len kind tag b : Byte} {bytes : List Byte} (s : State)
    (hb : b ≠ frameCheck ([len, kind, tag] ++ bytes)) :
    judgeFrame len kind tag bytes b s = hunterAt .hunt s :=
  if_neg hb

/-- R173: a byte reaches a part under supply through its hunter. -/
theorem exec_hostByteTaken (b : Byte) {s : State} (hp : s.powered = true) :
    exec (.hostByteTaken b) s = .next (takeByte b s) := by
  rw [exec_event _ _ rfl, whenPowered_on _ _ hp]

/-- R175 to R178: a request stands for the frame that carries it, taken by a part under supply. -/
theorem exec_request_powered {i : Instr} {kind tag : Byte} {body : List Byte} {s : State}
    (hp : s.powered = true) (hi : hostFrame i = some (kind, tag, body)) :
    exec i s = .next (takeFrame kind tag body (ownerOf kind body s) s) := by
  rw [exec_request _ _ _ _ hi, hostRequest, whenPowered_on _ _ hp]

/-- Settles O10: the register through `toNat_frameCheck`, a CHECK byte through the two judgements of `judgeFrame`,
and the frame sent by its layout. -/
theorem framesAreJudgedByTheirCheckValue : Obligations.FramesAreJudgedByTheirCheckValue := by
  refine ⟨toNat_frameCheck, ?judged, ?sent⟩
  case judged =>
    intro i s len kind tag b bytes hp hd ht hh hi
    rw [exec_hostByteTaken b hp, takeByte_check b hd ht hh]
    refine ⟨fun hb => ?wellFormed, fun hb => ?discarded⟩
    case wellFormed => rw [judgeFrame_wellFormed s hb, exec_request_powered hp hi]
    case discarded =>
      rw [judgeFrame_discarded s hb]
      rfl
  case sent =>
    intro kind tag body
    rfl

end Sys2Proof.Machine
end

/-! PROOFS. RESTART (R183, R185, R192): the answer of its owner by the store write and the winder state, and what the
request does to a part whose link is open. -/
section
namespace Sys2Proof.Machine

theorem writing_eq_false_iff (s : State) : writing s = false ↔ s.cfs.write = none := by
  simp [writing]

theorem writing_eq_true_iff (s : State) : writing s = true ↔ s.cfs.write ≠ none := by
  simp [writing, Option.isSome_iff_ne_none]

/-! ## The owner's answer -/

theorem ownRestart_busy {s : State} (body : List Byte) (hw : s.cfs.write ≠ none) :
    ownRestart body s = refuse .busy :=
  if_pos ((writing_eq_true_iff s).2 hw)

theorem ownRestart_idleStore {s : State} (body : List Byte) (hw : s.cfs.write = none) :
    ownRestart body s = if restartable s.msq.winder then accept [] beginDrain else refuse .wrongState := by
  simp [ownRestart, (writing_eq_false_iff s).2 hw]

/-! ## The request -/

/-- R178, R201: RESTART has an empty body, so an open link passes it to its owner. -/
theorem exec_restart_open {s : State} (tag : Byte) (ho : linkOpen s = true) :
    exec (.restart tag []) s = .next ((ownRestart [] s).act
      { s with hlc := answered s 0x1B tag (ownRestart [] s).body }) :=
  hostRequest_open 0x1B tag [] ownRestart s [0] ho rfl (by simp)

/-- R185: the drain is noted by the winder state that the RESTART met. -/
theorem exec_restart_accepted {s : State} {w : Winder} (tag : Byte) (ho : linkOpen s = true)
    (hw : s.cfs.write = none) (hs : s.msq.winder = w) (hr : restartable w = true) :
    exec (.restart tag []) s = .next { s with
      hlc := { answered s 0x1B tag [0x00] with drain := .on (restartKeeps w) } } := by
  subst hs
  rw [exec_restart_open tag ho, ownRestart_idleStore [] hw, if_pos hr]
  rfl

theorem exec_restart_wrongState {s : State} {w : Winder} (tag : Byte) (ho : linkOpen s = true)
    (hw : s.cfs.write = none) (hs : s.msq.winder = w) (hr : restartable w = false) :
    exec (.restart tag []) s = .next { s with hlc := answered s 0x1B tag [0x03] } := by
  subst hs
  rw [exec_restart_open tag ho, ownRestart_idleStore [] hw, if_neg (by simp [hr])]
  rfl

/-- Settles O36, by the store write and then the winder state. -/
theorem restartBeginsDrain : Obligations.RestartBeginsDrain := by
  intro s tag ho
  refine ⟨?busy, ?keeping, ?clearing, ?refused⟩
  case busy =>
    intro hw
    rw [exec_restart_open tag ho, ownRestart_busy [] hw]
    rfl
  case keeping =>
    rintro hw (hs | hs)
    · exact exec_restart_accepted tag ho hw hs rfl
    · exact exec_restart_accepted tag ho hw hs rfl
  case clearing =>
    rintro hw (hs | hs)
    · exact exec_restart_accepted tag ho hw hs rfl
    · exact exec_restart_accepted tag ho hw hs rfl
  case refused =>
    rintro hw (hs | ⟨phase, hs⟩ | ⟨stage, hs⟩)
    · exact exec_restart_wrongState tag ho hw hs rfl
    · exact exec_restart_wrongState tag ho hw hs rfl
    · exact exec_restart_wrongState tag ho hw hs rfl

end Sys2Proof.Machine
end
